-- ==== Sys2Proof/Word.lean ====
section
/-! DEFINITION. The word types of the FS416: bytes, 16-bit register words and timestamps (introduction, "Numbers"). -/

namespace Sys2Proof

/-- One byte of the host link. -/
abbrev Byte := BitVec 8

/-- One register word: 16 bits (introduction, "Numbers"). -/
abbrev Word := BitVec 16

/-- A value of the 32-bit timestamp counter TSTAMP (R5). -/
abbrev Stamp := BitVec 32

end Sys2Proof
end

