-- ==== Sys2Proof/Syntax.lean ====
section
/-! DEFINITION. The commands of the FS416: one constructor of `Instr` per row of spec/opcode_table.json, with the operands
that its rule gives the step. Rows of three kinds stand here: host transactions (chapter Host Link Protocol), events of the
pins and of the clock, and events that arise inside a tick (chapter Timebase, Ticks and Event Order). -/

namespace Sys2Proof

/-- A channel CH0-CH3 (introduction, "Sources, Channels and Levels"). -/
abbrev Channel := Fin 4

/-- A fault line FIN0-FIN15. -/
abbrev LineNo := Fin 16

/-- A set of channels as a 4-bit mask: bit k names CHk. -/
abbrev ChannelMask := BitVec 4

/-- A source number 0-21 (Table 0-1), also the natural order. -/
abbrev Source := Fin 22

/-- The two outputs and PWM inputs of one channel: A (GAk, PAk) and B (GBk, PBk). -/
inductive Side where
  | a
  | b
  deriving DecidableEq, Repr

/-- The one set of input samples of a tick (R2). `supLow` is the droop comparator's sample (true: below threshold);
`safeIn` is the level of the SAFE_IN pin (true: high); bit k of `fin` and of `wm` is the level of FINk and of WMk. -/
structure Samples where
  fin    : BitVec 16
  supLow : Bool
  safeIn : Bool
  wm     : BitVec 4
  deriving DecidableEq, Repr

/-- A transition of the clock monitor, which waits for no tick (R7): REFCLK judged missing in GOOD, its first edge in LOST,
judged missing in RECOVERING, an edge that ends a good period, and the good period that completes the recovery (R8-R10). -/
inductive ClockEvent where
  | missing
  | returned
  | lostAgain
  | goodPeriod
  | recovered
  deriving DecidableEq, Repr

/-- What can happen while nCS is low: a whole tick on its samples, or a transition of the clock monitor. -/
inductive MidEvent where
  | tick (inp : Samples)
  | clock (e : ClockEvent)
  deriving DecidableEq, Repr

/-- Something that happens while nCS is low, after `after` whole bytes of the transaction have been clocked (R158, R159). -/
structure Mid where
  after : Nat
  event : MidEvent
  deriving DecidableEq, Repr

/-- What a host transaction carries beside its body: the header's tag, the fill bytes that the host clocks beyond the frame's
expected length (R156), what happens while nCS is low, and how time goes on after nCS rises. With `next = some inp` the next
tick begins with these samples, and its phase 1 takes the judged transaction; with `none` the transaction waits for a later
tick (R3; DESIGN CHOICE, log entry 4: safe). -/
structure Frame where
  tag    : BitVec 6
  fill   : List Byte
  during : List Mid
  next   : Option Samples
  deriving DecidableEq, Repr

/-- How a transaction lies in time: what happens while nCS is low, and the next tick as in a `Frame`. -/
structure Course where
  during : List Mid
  next   : Option Samples
  deriving DecidableEq, Repr

/-- The words that a READ asks for: the start address and the count byte as received (R161). -/
structure WordRange where
  start : Byte
  count : Byte
  deriving DecidableEq, Repr

/-- Four bytes: the argument bytes 0-3 of an ACTION, or the payload bytes 0-3 of a result record (R156, R158). -/
structure Quad where
  b0 : Byte
  b1 : Byte
  b2 : Byte
  b3 : Byte
  deriving DecidableEq, Repr

/-- A commit scope (section 3.6): TABLE, or CHANNEL k. -/
inductive Scope where
  | table
  | channel (k : Channel)
  deriving DecidableEq, Repr

/-- The condition whose end RESET_RELEASE reports (R170): the supply's power-on threshold, or the nRST pin. -/
inductive ResetLine where
  | supply
  | nrst
  deriving DecidableEq, Repr

/-- The commands, one constructor per row of spec/opcode_table.json. The rows for events that arise inside a tick carry
no samples: the event falls in the tick in progress, or in the next one on the input pins' standing levels (log entry 5). -/
inductive Instr where
  /-- TICK (R13): a whole tick on one set of input samples. -/
  | tick (inp : Samples)
  /-- HOLDOFF_EXPIRE (R139). -/
  | holdoffExpire
  /-- LINE_ASSERT (R22): line k's item, on a raw-active sample that completes its qualification. -/
  | lineAssert (k : LineNo)
  /-- LINE_CLEAR (R31): line k's item, on a raw-inactive sample that completes its release. -/
  | lineClear (k : LineNo)
  /-- SUP_ASSERT (R33). -/
  | supAssert
  /-- SUP_CLEAR (R33). -/
  | supClear
  /-- SAFE_IN_ACTIVE (R34). -/
  | safeInActive
  /-- SAFE_IN_INACTIVE (R34). -/
  | safeInInactive
  /-- MARK (R67): a matching window-mark edge of channel k. -/
  | mark (k : Channel)
  /-- ESCALATE_PERSIST (R69). -/
  | escalatePersist (k : Channel)
  /-- ESCALATE_STARVED (R72). -/
  | escalateStarved (k : Channel)
  /-- ARMED_COMMIT_APPLY (R47). -/
  | armedCommitApply (scope : Scope)
  /-- SCRUB_READ (R54). -/
  | scrubRead
  /-- SCRUB_PASS_END (R55). -/
  | scrubPassEnd
  /-- REFCLK_MISSING (R8). -/
  | refclkMissing
  /-- CLK_RAISE (R145). -/
  | clkRaise
  /-- REFCLK_RETURN (R8). -/
  | refclkReturn
  /-- REFCLK_LOST_AGAIN (R9). -/
  | refclkLostAgain
  /-- CLOCK_RECOVERED (R10). -/
  | clockRecovered
  /-- CLK_CLEAR (R10). -/
  | clkClear
  /-- WINDOW_OPEN (R150). -/
  | windowOpen
  /-- LATE_VIOLATION (R150). -/
  | lateViolation
  /-- SECOND_LAPSE (R154). -/
  | secondLapse
  /-- POR (R170): the supply is below the power-on threshold. -/
  | por
  /-- PIN_RESET (R170): nRST goes low. -/
  | pinReset
  /-- FRAME_ERROR (R157): the whole host bytes received before nCS rose, and their course. -/
  | frameError (bytes : List Byte) (course : Course)
  /-- NULL (R163). -/
  | null (f : Frame)
  /-- READ (R161) of `count` words from `start`; with `inTime = some inp` a tick begins right after its CRC byte (R4). -/
  | read (f : Frame) (start count : Byte) (inTime : Option Samples)
  /-- READ_SNAPSHOT (R4): the first tick boundary after the CRC byte of the READ that begins with these bytes; what `during`
  lists came before it. The READ ends by the command that carries its whole frame. -/
  | readSnapshot (f : Frame) (range : WordRange)
  /-- WRITE (R162): start address, count byte as received, data words. -/
  | write (f : Frame) (start count : Byte) (data : List Word)
  /-- LINE_ENABLE (R28): a WRITE of LINEMODEk whose word has bit 0 set. -/
  | lineEnable (f : Frame) (k : LineNo) (word : Word)
  /-- LINE_DISABLE (R28): a WRITE of LINEMODEk whose word has bit 0 clear. -/
  | lineDisable (f : Frame) (k : LineNo) (word : Word)
  /-- POLARITY_CHANGE (R27): a WRITE of LINEMODEk. -/
  | polarityChange (f : Frame) (k : LineNo) (word : Word)
  /-- SHADOW_WRITE (R41): a WRITE of words of SHTAB or SHCHk. -/
  | shadowWrite (f : Frame) (start : Byte) (data : List Word)
  /-- SAFEPAT_WRITE (R93). -/
  | safepatWrite (f : Frame) (word : Word)
  /-- ARBCFG_WRITE (R133). -/
  | arbcfgWrite (f : Frame) (word : Word)
  /-- WDGCFG_WRITE (R148). -/
  | wdgcfgWrite (f : Frame) (word : Word)
  /-- JRNL_CFG_WRITE (R122). -/
  | jrnlCfgWrite (f : Frame) (word : Word)
  /-- ACCEPT (R135), action code 1. -/
  | accept (f : Frame) (args : Quad)
  /-- DONE (R136), action code 2. -/
  | done (f : Frame) (args : Quad)
  /-- SET_LEVEL (R137), action code 3. -/
  | setLevel (f : Frame) (args : Quad)
  /-- HOLDOFF (R138), action code 4. -/
  | holdoff (f : Frame) (args : Quad)
  /-- CANCEL (R140), action code 5. -/
  | cancel (f : Frame) (args : Quad)
  /-- COMMIT (R44), action code 6. -/
  | commit (f : Frame) (args : Quad)
  /-- ABORT_COMMIT (R48), action code 7. -/
  | abortCommit (f : Frame) (args : Quad)
  /-- CLEAR_LATCH (R77), action code 8. -/
  | clearLatch (f : Frame) (args : Quad)
  /-- FORCE_TRIP (R82), action code 9. -/
  | forceTrip (f : Frame) (args : Quad)
  /-- FORCE_SAFE (R104), action code 10. -/
  | forceSafe (f : Frame) (args : Quad)
  /-- EXIT_SAFE (R105), action code 11. -/
  | exitSafe (f : Frame) (args : Quad)
  /-- JOURNAL_POP (R121), action code 12. -/
  | journalPop (f : Frame) (args : Quad)
  /-- KEEPALIVE (R151), action code 13. -/
  | keepalive (f : Frame) (args : Quad)
  /-- WDG_ARM (R149), action code 14. -/
  | wdgArm (f : Frame) (args : Quad)
  /-- LOCK (R57), action code 15. -/
  | lock (f : Frame) (args : Quad)
  /-- UNLOCK (R58), action code 16. -/
  | unlock (f : Frame) (args : Quad)
  /-- CONFIRM (R165), action code 17. -/
  | confirm (f : Frame) (args : Quad)
  /-- RESET_DEVICE (R172), action code 18. -/
  | resetDevice (f : Frame) (args : Quad)
  /-- SELFTEST (R56), action code 19. -/
  | selftest (f : Frame) (args : Quad)
  /-- CLEAR_COUNTERS (R176), action code 20. -/
  | clearCounters (f : Frame) (args : Quad)
  /-- CLEAR_CAUSE (R174), action code 21. -/
  | clearCause (f : Frame) (args : Quad)
  /-- REFCLK_GOOD_PERIOD (R9). -/
  | refclkGoodPeriod
  /-- PWM_INPUT_EDGE (R90): PAk or PBk goes to `level` (true: high). -/
  | pwmInputEdge (k : Channel) (side : Side) (level : Bool)
  /-- RESET_RELEASE (R170): the supply rises above the threshold, or nRST returns high. -/
  | resetRelease (line : ResetLine)
  /-- UNKNOWN_ACTION_CODE (R166): a good ACTION frame whose code is 0 or above 21. -/
  | unknownActionCode (f : Frame) (code : Byte) (args : Quad)
  deriving DecidableEq, Repr

end Sys2Proof
end

