-- ==== Sys2Proof/Decode.lean ====
section
/-! DEFINITION. The command that a word spells by the bits of spec/opcode_table.json. The table gives no row any bits: the
FS416 takes its commands as SPI frames, pin levels and clock events, not as instruction words. -/

namespace Sys2Proof

/-- The command a word spells by the table's bits: none, for no row has bits (log entry 24). -/
def decodeTableWord (_nbits _w : Nat) : Option Instr := none

end Sys2Proof
end

