-- ==== Sys2Proof/Machine/Bytes.lean ====
section
/-! DEFINITION. Byte order, saturating counts and the two CRCs of the FS416 (introduction "Numbers"; R43, R156). -/

namespace Sys2Proof.Machine

/-- A saturating increment: "Counters described as saturating stop at their largest value and do not wrap". -/
def satInc {w : Nat} (x : BitVec w) : BitVec w :=
  if x = BitVec.allOnes w then x else x + 1

/-- The high byte of a word, which travels first on the host link. -/
def hiByte (w : Word) : Byte := w.extractLsb' 8 8

/-- The low byte of a word. -/
def loByte (w : Word) : Byte := w.extractLsb' 0 8

/-- A word from its high and its low byte ("Multi-byte quantities on the host link travel high byte first"). -/
def wordOf (hi lo : Byte) : Word := hi ++ lo

/-- Words as bytes, each word high byte first (R43, R158). -/
def bytesOf : List Word → List Byte
  | [] => []
  | w :: ws => hiByte w :: loByte w :: bytesOf ws

/-- A Boolean as the one-bit field it is shown in. -/
def bit (w : Nat) (b : Bool) : BitVec w := if b then 1 else 0

/-- One bit through a CRC register: shift left, and subtract the generator when a 1 is shifted out. -/
def crcShift {w : Nat} (poly reg : BitVec w) : BitVec w :=
  if reg.msb then (reg <<< 1) ^^^ poly else reg <<< 1

/-- Eight bits through a CRC register. -/
def crcShift8 {w : Nat} (poly reg : BitVec w) : BitVec w :=
  crcShift poly (crcShift poly (crcShift poly (crcShift poly
    (crcShift poly (crcShift poly (crcShift poly (crcShift poly reg)))))))

/-- One byte into a CRC-8, most significant bit first. -/
def crc8Byte (reg b : Byte) : Byte := crcShift8 0x07 (reg ^^^ b)

/-- The CRC-8 of R156: generator 0x07, initial value 0, no reflection, no final exclusive-or. -/
def crc8 (bytes : List Byte) : Byte := bytes.foldl crc8Byte 0

/-- One byte into a CRC-16, most significant bit first. -/
def crc16Byte (reg : Word) (b : Byte) : Word := crcShift8 0x1021 (reg ^^^ (b ++ (0 : Byte)))

/-- One word into a CRC-16, high byte first. -/
def crc16Word (reg w : Word) : Word := crc16Byte (crc16Byte reg (hiByte w)) (loByte w)

/-- The CRC-16 of R43 over words in ascending address order: generator 0x1021, initial value 0xFFFF. -/
def crc16 (words : List Word) : Word := words.foldl crc16Word 0xFFFF

end Sys2Proof.Machine
end

