-- ==== Sys2Proof/Config.lean ====
section
/-! DEFINITION. The fixed capacities and limits of the FS416, each with the rule that states it. The manual leaves no value
of the device open, so no opaque constant stands here. -/

namespace Sys2Proof.Config

/-- Journal capacity in records (R110). -/
def journalSlots : Nat := 32

/-- Occupancy from which only protected records are stored (R116). -/
def journalReserveAt : Nat := 28

/-- Service-stack capacity (R134). -/
def stackSlots : Nat := 12

/-- Gap count at which REFCLK is judged missing (R7). -/
def gapLimit : Nat := 32

/-- Good REFCLK periods that complete a recovery (R10). -/
def recoveryLimit : Nat := 4096

/-- Last pacing count of the scrubber before it reads an entry (R54). -/
def scrubLastPace : Nat := 63

/-- Ticks per unit of a keepalive window length (R148). -/
def windowUnit : Nat := 1024

/-- Ticks per unit of the mark timeout MT (Table 3-3). -/
def timeoutUnit : Nat := 16

/-- Fixed assert limit of the SUP conditioner (Table 2-4). -/
def supAssertLimit : Byte := 15

/-- Fixed release limit of the SUP conditioner (Table 2-4). -/
def supReleaseLimit : Byte := 255

/-- Fixed limit, both ways, of the SAFE_IN conditioner (Table 2-4). -/
def safeInLimit : Byte := 7

end Sys2Proof.Config
end

