-- ==== Sys2Proof/Machine/State.lean ====
section
/-! DEFINITION. The state of the FS416, block by block: every register, counter, queue, mode and pin that the chapters name,
as plain data, with the reasons a step can stop and the state right after a power-on reset. -/

namespace Sys2Proof.Machine

/-! ### Reasons to stop -/

/-- The faults of the block. It has none: the manual gives every command its effect in every state, and a command that the
device turns away has an outcome of its own (R160). -/
inductive Fault where
  deriving DecidableEq, Repr

/-- Why a step answers no state. -/
inductive Refusal where
  /-- Raised by `exec` alone, for a row of the command table without a meaning yet; no arm raises it. Safe: nothing is claimed. -/
  | notModelled (mnemonic : String)
  deriving DecidableEq, Repr

/-! ### Response table and contributions -/

/-- The trip classes (Table 3-1). -/
inductive TripClass where
  | noTrip
  | cycle
  | latch
  | safe
  deriving DecidableEq, Repr

/-- A notification level 0-11 (introduction, "Levels"). -/
abbrev Level := Fin 12

/-- One response-table entry (R36). -/
structure Entry where
  cls    : TripClass
  mask   : ChannelMask
  level  : Fin 8
  record : Bool
  deriving DecidableEq, Repr

/-- The default entry of R39: Latch, all four channels, level 4, record on. -/
def Entry.default : Entry := ⟨.latch, 0xF, 4, true⟩

/-- A captured contribution (R29). -/
structure Contribution where
  cls   : TripClass
  mask  : ChannelMask
  level : Level
  deriving DecidableEq, Repr

/-! ### Conditioners -/

/-- The four states of a conditioner (R21-R24); a counting state holds its filter count and the limit latched on entry. -/
inductive Cond where
  | idle
  | qualifying (count limit : Byte)
  | asserted
  | releasing (count limit : Byte)
  deriving DecidableEq, Repr

/-- The configuration of one line (Table 2-1). -/
structure LineCfg where
  enable      : Bool
  activeLow   : Bool
  recordClear : Bool
  af          : Byte
  rf          : Byte
  deriving DecidableEq, Repr

/-- The default line configuration (R19). -/
def LineCfg.default : LineCfg := ⟨false, false, false, 0, 0⟩

/-- One fault line: configuration, conditioner, held contribution and glitch counter (R18-R31). -/
structure Line where
  cfg     : LineCfg
  cond    : Cond
  contrib : Option Contribution
  glitch  : Byte
  deriving DecidableEq, Repr

/-- The supply droop conditioner with its contribution (R32, R33). -/
structure Sup where
  cond    : Cond
  contrib : Option Contribution
  deriving DecidableEq, Repr

/-! ### Channels -/

/-- A fixed output action of a channel block: Pass, Low or High (Table 3-3). -/
inductive Act where
  | pass
  | low
  | high
  deriving DecidableEq, Repr

/-- An override mode (Table 3-3). -/
inductive Override where
  | none
  | low
  | high
  deriving DecidableEq, Repr

/-- The mark-edge selection (Table 3-3). -/
inductive MarkEdge where
  | rising
  | falling
  | both
  deriving DecidableEq, Repr

/-- One channel configuration block (Table 3-3); `clearAtMark` is latch-clear timing AtMark. -/
structure ChanCfg where
  recordReleases : Bool
  clearAtMark    : Bool
  overrideB      : Override
  overrideA      : Override
  latchB         : Act
  latchA         : Act
  cycleB         : Act
  cycleA         : Act
  edge           : MarkEdge
  ec             : Byte
  mt             : Word
  deriving DecidableEq, Repr

/-- The default channel block (R40). -/
def ChanCfg.default : ChanCfg := ⟨true, false, .none, .none, .low, .low, .low, .low, .rising, 0, 0⟩

/-- The trip states (section 4.1). -/
inductive TripState where
  | normal
  | cycle
  | latched
  | clearing
  deriving DecidableEq, Repr

/-- The latch-clear indication (R80). -/
inductive ClearInd where
  | none
  | pending
  | cancelled
  deriving DecidableEq, Repr

/-- One channel's trip state and its six items of working data (R60). -/
structure Chan where
  st           : TripState
  persist      : Byte
  timer        : BitVec 20
  pulse        : Bool
  ind          : ClearInd
  markSeen     : Bool
  enteredCycle : Bool
  deriving DecidableEq, Repr

/-- What every reset makes of a channel (R60). -/
def Chan.reset : Chan := ⟨.latched, 0, 0, false, .none, false, false⟩

/-! ### Timebase and clock monitor -/

/-- The clock monitor's states (section 1.5). -/
inductive MonState where
  | good
  | lost
  | recovering
  deriving DecidableEq, Repr

/-- The two timebase clock sources (R1). -/
inductive ClockSource where
  | ref
  | backup
  deriving DecidableEq, Repr

/-- A monitor transition handed to the monitor's item of phase 2 (R7): the CLK raise of R8 or the clear of R10. -/
inductive HandOff where
  | raise
  | clear
  deriving DecidableEq, Repr

/-- The clock monitor (R7-R10). `seen` is the monitor state that tick processing has been handed, at the monitor's place in
phase 2 (R7, R13; DEDUCED, log entry 26). `toRef` says that the clear of R10 was handled in the tick in progress, at whose end
the source returns to REF (DEDUCED, log entry 12). The gap count has no width in the manual (log entry 22). -/
structure ClockMon where
  mon      : MonState
  src      : ClockSource
  gap      : Nat
  recovery : Nat
  handOffs : List HandOff
  seen     : MonState
  cond     : Bool
  toRef    : Bool
  deriving DecidableEq, Repr

/-- TSTAMP, the TSTAMP_HI holding word and the input samples that stay readable or are compared later (R5, R6, R11, R35). -/
structure Timebase where
  tstamp    : Stamp
  hold      : Word
  rawin     : BitVec 16
  supLow    : Bool
  safeInPin : Bool
  wmPrev    : Option (BitVec 4)
  deriving DecidableEq, Repr

/-- The items of a tick after phase 1 (R13, R14): those of phase 2; the channels of phase 3 and the storing of the window-mark
samples; the armed commits of phase 4 by mark channel; the outputs with nSAFE, nIRQ and the holdoff decrement of phase 5. -/
inductive Item where
  | line (k : LineNo)
  | sup
  | safeIn
  | wdg
  | scrub
  | clk
  | chan (k : Channel)
  | keepMarks
  | commitTable (k : Channel)
  | commitChannel (k : Channel)
  | outputs
  | irq
  | holdoff
  deriving DecidableEq, Repr

/-- A tick that has begun and has not ended: its one set of samples, and the items that are still to run, in order. -/
structure OpenTick where
  inp  : Samples
  left : List Item
  deriving DecidableEq, Repr

/-! ### Staging and scrubber -/

/-- The staged configuration: both copies, table-valid, the armed commits and LOCKED (R36-R49, R57). -/
structure Staging where
  shTab      : Vector Entry 22
  actTab     : Vector Entry 22
  shCh       : Vector ChanCfg 4
  actCh      : Vector ChanCfg 4
  tableValid : Bool
  armedTable : Option Channel
  armedCh    : BitVec 4
  locked     : Bool
  deriving DecidableEq, Repr

/-- The scrubber (R54, R55). It runs exactly while table-valid is true, so "running" is no field of its own. -/
structure Scrubber where
  position : Fin 22
  pacing   : Fin 64
  acc      : Word
  ref      : Word
  tblCond  : Bool
  deriving DecidableEq, Repr

/-- The scrubber after every reset (R54). -/
def Scrubber.reset : Scrubber := ⟨0, 0, 0xFFFF, 0, false⟩

/-! ### Journal -/

/-- The six causes of Safe-Hold (Table 6-1). -/
inductive Cause where
  | startup
  | source
  | table
  | clock
  | forced
  | input
  deriving DecidableEq, Repr

/-- The two causes of a Protective reset (R147, R154). -/
inductive ProtCause where
  | conflict
  | linkEscalation
  deriving DecidableEq, Repr

/-- The reset kinds (R169). -/
inductive ResetKind where
  | por
  | pin
  | cmd
  | prot (why : ProtCause)
  deriving DecidableEq, Repr

/-- The kinds of FORCE_TRIP (R81). -/
inductive TripKind where
  | cycle
  | latch
  deriving DecidableEq, Repr

/-- The reasons of an escalation (R75). -/
inductive EscReason where
  | persist
  | starved
  deriving DecidableEq, Repr

/-- The eight record kinds, each with its detail (Table 7-1, Table 7-2). -/
inductive RecKind where
  | assert (level : Level) (hst : Option TripKind)
  | clear (disabled : Bool)
  | release (persist : Byte)
  | escalate (why : EscReason)
  | safeEntry (cause : Cause) (first : Bool)
  | safeExit
  | commitApplied (scope : Scope)
  | resetMark (kind : ResetKind)
  deriving DecidableEq, Repr

/-- The fields of a record that its event fixes (R111). -/
structure RecBody where
  kind     : RecKind
  source   : Option Source
  channels : ChannelMask
  cls      : Option TripClass
  stamp    : Stamp
  deriving DecidableEq, Repr

/-- A stored record: its body with the seq and the lost field given at storing (R116). -/
structure Rec where
  seq  : Word
  lost : Byte
  body : RecBody
  deriving DecidableEq, Repr

/-- The event journal (R110); `queue` is oldest first. -/
structure Journal where
  queue        : List Rec
  nextSeq      : Word
  lost         : Byte
  lostCnt      : Word
  evictCnt     : Word
  protOverflow : Bool
  jt           : Fin 33
  deriving DecidableEq, Repr

/-- The journal after POR and PIN (R110). -/
def Journal.empty : Journal := ⟨[], 0, 0, 0, 0, false, 0⟩

/-! ### Arbiter -/

/-- The pending state of a source that is pending (R127). -/
structure Pend where
  count    : Byte
  firstSeq : Option Word
  deriving DecidableEq, Repr

/-- One service-stack entry (R134). -/
structure StackEntry where
  savedSL  : Level
  source   : Source
  firstSeq : Option Word
  deriving DecidableEq, Repr

/-- The notification arbiter: pending states, SL, NEST_OFF, the service stack (newest first) and HD (R127-R138). -/
structure Arbiter where
  pend    : Vector (Option Pend) 22
  sl      : Level
  nestOff : Bool
  stack   : List StackEntry
  hd      : Word
  deriving DecidableEq, Repr

/-! ### Keepalive supervisor -/

/-- The supervisor's states (section 9.5). -/
inductive WdgState where
  | off
  | closed
  | opened
  | lapsed
  deriving DecidableEq, Repr

/-- The keepalive supervisor (R148-R154). `length` is the latched window length in units of 1024 ticks; `fresh` says that
the present state was entered in phase 1 of the tick in progress (R150); `lnk` is the LNK condition's contribution. -/
structure Watchdog where
  cw     : Byte
  ow     : Byte
  st     : WdgState
  token  : Byte
  timer  : Nat
  length : Byte
  fresh  : Bool
  lnk    : Option Contribution
  deriving DecidableEq, Repr

/-! ### Outputs, Safe-Hold and pins -/

/-- The five output layers (Table 5-1). -/
inductive Layer where
  | safe
  | latch
  | cycle
  | override
  | pwm
  deriving DecidableEq, Repr

/-- What the last recompute established (R91): per output (bit order of Table 5-2) its layer and, for layers 1-4, its fixed
level; nSAFE and nIRQ (true: asserted, pin low). -/
structure Outputs where
  layers : Vector Layer 8
  level  : Byte
  nSafe  : Bool
  nIrq   : Bool
  deriving DecidableEq, Repr

/-- The pins: the PWM inputs, which the device follows at any time (R90); the sampled input pins at their standing levels,
which are those that the last tick sampled (R2; DESIGN CHOICE, log entry 23); and the two conditions that hold a reset
(R169). -/
structure Pins where
  pa        : BitVec 4
  pb        : BitVec 4
  inputs    : Samples
  supplyLow : Bool
  nrstLow   : Bool
  deriving DecidableEq, Repr

/-! ### Host link -/

/-- A result record (R158, R160). -/
structure ResultRec where
  kind    : BitVec 2
  tag     : BitVec 6
  outcome : Byte
  payload : Quad
  deriving DecidableEq, Repr

/-- The replay memory's content (R164); its kind is always ACTION. -/
structure Replay where
  tag     : BitVec 6
  code    : Byte
  args    : Quad
  outcome : Byte
  payload : Quad
  deriving DecidableEq, Repr

/-- An armed confirmation (R165). -/
structure Confirmation where
  code      : Byte
  challenge : Byte
  deriving DecidableEq, Repr

/-- A transaction that has been judged and waits for phase 1 (R3): an ACTION, a WRITE, a READ's result (`snapped`: a
boundary fell in time for its snapshot), or a link error, which is FrameShort if `short` and FrameCrc otherwise. -/
inductive Judged where
  | action (tag : BitVec 6) (code : Byte) (args : Quad)
  | write (tag : BitVec 6) (start count : Byte) (data : List Word)
  | read (tag : BitVec 6) (start count : Byte) (snapped : Bool)
  | bad (kind : BitVec 2) (tag : BitVec 6) (short : Bool) (payload : Quad)
  deriving DecidableEq, Repr

/-- A transaction whose nCS is low (R158): the host bytes received, the status byte captured when nCS fell, the result record
captured at the end of byte 0 (until then the one that stood when nCS fell), whether that record is still the most recent one
stored (R159), the bytes shifted out, a READ's snapshot once it has been taken (R4), and whether a reset has abandoned the
transaction (R168). -/
structure Flight where
  host    : List Byte
  status  : Byte
  record  : ResultRec
  current : Bool
  sent    : List Byte
  words   : Option (List Word)
  dead    : Bool
  deriving DecidableEq, Repr

/-- The host link. `chain` says that the replay chain is unbroken (R164); `flight` is the transaction whose nCS is low between
commands, a READ whose boundary READ_SNAPSHOT has given; `sdo` holds the bytes that the last transaction shifted out; `owed`
says that a READ of TSTAMP_LO has ended before the boundary of its snapshot, which makes the capture of R6 (R4). -/
structure Link where
  result    : ResultRec
  resultNew : Bool
  confirm   : Option Confirmation
  replay    : Option Replay
  chain     : Bool
  waiting   : List Judged
  flight    : Option Flight
  sdo       : List Byte
  owed      : Bool
  deriving DecidableEq, Repr

/-! ### Counters and reset cause -/

/-- ERRCNT, SPURCNT and CANCELCNT (R175). -/
structure Counters where
  err    : Word
  spur   : Word
  cancel : Word
  deriving DecidableEq, Repr

/-- RSTCAUSE (R173): the last kind (with its PROT cause), and the sticky kinds, bit 0 POR to bit 3 PROT. -/
structure RstCause where
  last   : ResetKind
  sticky : BitVec 4
  deriving DecidableEq, Repr

/-! ### The machine -/

/-- The whole machine. `pending` is the model's queue of commands; every other field is the device's. -/
structure State where
  time     : Timebase
  clk      : ClockMon
  tick     : Option OpenTick
  lines    : Vector Line 16
  sup      : Sup
  safeIn   : Cond
  staging  : Staging
  scrub    : Scrubber
  chans    : Vector Chan 4
  causes   : BitVec 6
  safepat  : Byte
  outs     : Outputs
  pins     : Pins
  journal  : Journal
  arb      : Arbiter
  wdg      : Watchdog
  link     : Link
  counters : Counters
  rstcause : RstCause
  pending  : List Instr
  deriving DecidableEq, Repr

/-- Four zero bytes. -/
def Quad.zero : Quad := ⟨0, 0, 0, 0⟩

/-- The machine right after a power-on reset that has been released (R169-R171, summary of reset effects): no tick has run,
the ResetNotice of a POR stands in the result record, and no command waits. RAWIN, the INSTAT samples, the pins and `sdo`
have no reset value in the manual (DESIGN CHOICE, log entry 8: unsafe). -/
def State.reset : State where
  time     := ⟨0, 0, 0, false, false, none⟩
  clk      := ⟨.good, .ref, 0, 0, [], .good, false, false⟩
  tick     := none
  lines    := Vector.replicate 16 ⟨LineCfg.default, .idle, none, 0⟩
  sup      := ⟨.idle, none⟩
  safeIn   := .idle
  staging  := ⟨Vector.replicate 22 Entry.default, Vector.replicate 22 Entry.default,
                Vector.replicate 4 ChanCfg.default, Vector.replicate 4 ChanCfg.default, false, none, 0, false⟩
  scrub    := Scrubber.reset
  chans    := Vector.replicate 4 Chan.reset
  causes   := 1
  safepat  := 0
  outs     := ⟨Vector.replicate 8 .safe, 0, true, false⟩
  pins     := ⟨0, 0, ⟨0, false, false, 0⟩, false, false⟩
  journal  := Journal.empty
  arb      := ⟨Vector.replicate 22 none, 0, false, [], 0⟩
  wdg      := ⟨0, 16, .off, 0, 0, 0, false, none⟩
  link     := ⟨⟨0, 0, 0x0A, Quad.zero⟩, true, none, none, false, [], none, [], false⟩
  counters := ⟨0, 0, 0⟩
  rstcause := ⟨.por, 1⟩
  pending  := []

end Sys2Proof.Machine
end

