-- ==== Sys2Proof/Machine/Operands.lean ====
section
/-! DEFINITION. How the device reads the argument bytes of its actions and the bytes of a host frame: sources, masks,
scopes, commit timing, 16-bit values, the frame layouts and checks of R156 and R157, and the transaction a frame is. -/

namespace Sys2Proof.Machine

/-! ### Argument bytes (Table 10-5) -/

/-- A source number argument; none above 21 (R136, R140). -/
def sourceArg (b : Byte) : Option Source :=
  if h : b.toNat < 22 then some ⟨b.toNat, h⟩ else none

/-- A level argument of SET_LEVEL; none above 7 (R137). -/
def levelArg (b : Byte) : Option Level :=
  if h : b.toNat < 8 then some ⟨b.toNat, Nat.lt_trans h (by decide)⟩ else none

/-- A mask argument; none if any of bits 4-7 is set (R76, R81). -/
def maskArg (b : Byte) : Option ChannelMask :=
  if b.toNat < 16 then some (b.extractLsb' 0 4) else none

/-- The kind argument of FORCE_TRIP: 1 Cycle, 2 Latch (R81). -/
def tripKindArg (b : Byte) : Option TripKind :=
  if b = 1 then some .cycle else if b = 2 then some .latch else none

/-- A scope argument: 0 TABLE, 1-4 CHANNEL 0-3 (Table 10-5). -/
def scopeArg (b : Byte) : Option Scope :=
  if b = 0 then some .table
  else if h : b.toNat - 1 < 4 then some (.channel ⟨b.toNat - 1, h⟩)
  else none

/-- A 16-bit value in argument bytes 0-1, high byte first (HOLDOFF, JOURNAL_POP). -/
def word01 (q : Quad) : Word := wordOf q.b0 q.b1

/-- A 16-bit value in argument bytes 2-3, high byte first (COMMIT's crc). -/
def word23 (q : Quad) : Word := wordOf q.b2 q.b3

/-- The timing and mark channel of COMMIT's argument byte 1: `none` for NOW, `some k` for ATMARK with mark channel k; the
outer `none` is a timing code above 1 or a mark channel above 3 (R44, R167). -/
def timingArg (b : Byte) : Option (Option Channel) :=
  let timing := (b.extractLsb' 4 4 : BitVec 4)
  let mark := (b.extractLsb' 0 4 : BitVec 4)
  if h : mark.toNat < 4 then
    if timing = 0 then some none
    else if timing = 1 then some (some ⟨mark.toNat, h⟩)
    else none
  else none

/-! ### Frames (R156, R157) -/

/-- The expected length of a host frame, from its header's kind and, for a WRITE, its count byte (Table 10-1). -/
def expectedLength (bytes : List Byte) : Nat :=
  let kind := ((bytes.getD 0 0).extractLsb' 6 2 : BitVec 2)
  if kind = 0 then 2
  else if kind = 1 then 4
  else if kind = 2 then
    if bytes.length < 3 then 4
    else
      let n := (bytes.getD 2 0).toNat
      if 1 ≤ n ∧ n ≤ 16 then 4 + 2 * n else 4
  else 7

/-- The frame checks of R157: `none` if there was no transaction or the frame passes both; otherwise whether it is
FrameShort, and the payload of its result. -/
def frameCheck (bytes : List Byte) : Option (Bool × Quad) :=
  let n := bytes.length
  let want := expectedLength bytes
  if n = 0 then none
  else if n < want then some (true, ⟨BitVec.ofNat 8 (min n 255), BitVec.ofNat 8 want, 0, 0⟩)
  else
    let got := bytes.getD (want - 1) 0
    let own := crc8 (bytes.take (want - 1))
    if got = own then none else some (false, ⟨got, own, BitVec.ofNat 8 want, 0⟩)

/-- The kind of a received header byte. -/
def headerKind (bytes : List Byte) : BitVec 2 := (bytes.getD 0 0).extractLsb' 6 2

/-- The tag of a received header byte. -/
def headerTag (bytes : List Byte) : BitVec 6 := (bytes.getD 0 0).extractLsb' 0 6

/-- Bytes as words, high byte first (Table 10-1). -/
def wordsOf : List Byte → List Word
  | hi :: lo :: rest => wordOf hi lo :: wordsOf rest
  | _ => []

/-- The transaction that the received bytes are, judged when nCS rises (R3, R156, R157): a link error if a frame check fails;
else by the header's kind with its tag, a READ, a WRITE with its data words, or an ACTION with its body. No byte is no
transaction, and a good NULL is never applied (R163). `snapped` says that a boundary fell in time for the snapshot of a READ
(R161). -/
def judge (bytes : List Byte) (snapped : Bool) : Option Judged :=
  let tag := headerTag bytes
  let at_ := fun i => bytes.getD i 0
  match frameCheck bytes with
  | some (short, p) => some (.bad (headerKind bytes) tag short p)
  | none =>
    if headerKind bytes = 0 then none
    else if headerKind bytes = 1 then some (.read tag (at_ 1) (at_ 2) snapped)
    else if headerKind bytes = 2 then
      some (.write tag (at_ 1) (at_ 2) (wordsOf ((bytes.drop 3).take (expectedLength bytes - 4))))
    else some (.action tag (at_ 1) ⟨at_ 2, at_ 3, at_ 4, at_ 5⟩)

/-- A frame's bytes with their CRC-8 at the end (R156). -/
def sealFrame (body : List Byte) : List Byte := body ++ [crc8 body]

/-- A header byte from its kind and tag (R156). -/
def headerByte (kind : BitVec 2) (tag : BitVec 6) : Byte := kind ++ tag

/-- A good NULL frame (Table 10-1). -/
def nullBytes (tag : BitVec 6) : List Byte := sealFrame [headerByte 0 tag]

/-- A good READ frame. -/
def readBytes (tag : BitVec 6) (start count : Byte) : List Byte := sealFrame [headerByte 1 tag, start, count]

/-- A WRITE frame with these data words: a good one if they are as many as its count announces. -/
def writeBytes (tag : BitVec 6) (start count : Byte) (data : List Word) : List Byte :=
  sealFrame ([headerByte 2 tag, start, count] ++ bytesOf data)

/-- A good ACTION frame. -/
def actionBytes (tag : BitVec 6) (code : Byte) (args : Quad) : List Byte :=
  sealFrame [headerByte 3 tag, code, args.b0, args.b1, args.b2, args.b3]

/-- The addresses of a READ or WRITE of `count` words from `start`, in ascending order; they may run beyond 0xFF (R161). -/
def addresses (start count : Byte) : List Nat := (List.range count.toNat).map (start.toNat + ·)

end Sys2Proof.Machine

namespace Sys2Proof

/-- The frame with a whole tick right after its byte `n`, ahead of what else happens there (R4). -/
def Frame.tickAfter (f : Frame) (n : Nat) : Option Samples → Frame
  | none => f
  | some inp => { f with
      during := f.during.takeWhile (fun m => decide (m.after < n)) ++
        ⟨n, .tick inp⟩ :: f.during.dropWhile fun m => decide (m.after < n) }

/-- How a frame lies in time. -/
def Frame.course (f : Frame) : Course := ⟨f.during, f.next⟩

end Sys2Proof
end

