-- ==== Sys2Proof/Machine/Flags.lean ====
section
/-! DEFINITION. What the blocks compute from the state without changing it: held contributions and causes (R61), effective
levels, eligibility and the winner (R129, R130), Safe-Hold, its exit conditions (R106), protection of records (R115) and
the status byte (R159). -/

namespace Sys2Proof.Machine

/-! ### Names of sources (Table 0-1) -/

/-- Source 16, HST. -/
def hst : Source := 16
/-- Source 17, JTH. -/
def jth : Source := 17
/-- Source 18, SUP. -/
def supSrc : Source := 18
/-- Source 19, LNK. -/
def lnkSrc : Source := 19
/-- Source 20, TBL. -/
def tblSrc : Source := 20
/-- Source 21, CLK. -/
def clkSrc : Source := 21

/-- The source of a fault line. -/
def lineSrc (k : LineNo) : Source := ⟨k.val, Nat.lt_trans k.isLt (by decide)⟩

/-! ### Causes on channels -/

/-- The held contributions: the lines' while held, SUP's, and the LNK condition's (R61). -/
def State.held (s : State) : List Contribution :=
  s.lines.toList.filterMap (·.contrib) ++ s.sup.contrib.toList ++ s.wdg.lnk.toList

/-- A held contribution of class `c` names channel k. -/
def State.heldOn (s : State) (c : TripClass) (k : Channel) : Bool :=
  s.held.any fun x => x.cls == c && x.mask.getLsbD k.val

/-- A cycle cause is present on CHk (R61). -/
def State.cyclePresent (s : State) (k : Channel) : Bool := s.chans[k].pulse || s.heldOn .cycle k

/-- A latch cause is present on CHk (R61). -/
def State.latchPresent (s : State) (k : Channel) : Bool := s.heldOn .latch k

/-! ### Safe-Hold -/

/-- A cause as its bit of Table 6-1. -/
def Cause.bits : Cause → BitVec 6
  | .startup => 0x01
  | .source => 0x02
  | .table => 0x04
  | .clock => 0x08
  | .forced => 0x10
  | .input => 0x20

/-- The device is in Safe-Hold exactly while its cause set is not empty (R97). -/
def State.inHold (s : State) : Bool := s.causes != 0

/-- A conditioner that counts as asserted: ASSERTED or RELEASING (R23, R34). -/
def Cond.isActive : Cond → Bool
  | .idle => false
  | .qualifying _ _ => false
  | .asserted => true
  | .releasing _ _ => true

/-- A source is pending. -/
def State.isPending (s : State) (src : Source) : Bool := s.arb.pend[src].isSome

/-- A source is the source of some entry of the service stack (R141). -/
def State.onStack (s : State) (src : Source) : Bool := s.arb.stack.any fun e => e.source == src

/-- A hard critical is pending or on the service stack (R106 condition (e), R147). -/
def State.unserved (s : State) (src : Source) : Bool := s.isPending src || s.onStack src

/-- The mask of failing exit conditions (R106, Table 6-3). Condition (b) takes the monitor state that phase 2 has been handed
(DEDUCED, log entry 26). -/
def State.exitFailing (s : State) : Byte :=
  (if s.staging.tableValid then 0 else 0x01) |||
  (if s.clk.seen = .good then 0 else 0x02) |||
  (if s.safeIn.isActive then 0x04 else 0) |||
  (if s.held.any (fun x => x.cls == .safe) then 0x08 else 0) |||
  (if s.unserved tblSrc || s.unserved clkSrc then 0x10 else 0)

/-! ### Levels and eligibility -/

/-- A table level as a level. -/
def levelOf (l : Fin 8) : Level := ⟨l.val, Nat.lt_trans l.isLt (by decide)⟩

/-- The fixed level of a critical source, the table level of every other (R129, Table 0-1). -/
def State.effLevel (s : State) (src : Source) : Level :=
  if src.val < 18 then levelOf s.staging.actTab[src].level
  else ⟨src.val - 10, by omega⟩

/-- A source is eligible with the holdoff counter held to be nonzero or not (R130). -/
def State.eligibleWith (s : State) (holding : Bool) (src : Source) : Bool :=
  s.isPending src && (s.arb.sl < s.effLevel src) && (!holding || decide (7 ≤ (s.effLevel src).val))

/-- A source is eligible now (R130). -/
def State.eligible (s : State) (src : Source) : Bool := s.eligibleWith (s.arb.hd != 0) src

/-- The sources in natural order. -/
def allSources : List Source :=
  [0, 1, 2, 3, 4, 5, 6, 7, 8, 9, 10, 11, 12, 13, 14, 15, 16, 17, 18, 19, 20, 21]

/-- The better of a winner so far and a later source: a strictly higher level displaces it (R130). -/
def State.better (s : State) (best : Option Source) (src : Source) : Option Source :=
  if s.eligible src then
    match best with
    | none => some src
    | some b => if s.effLevel b < s.effLevel src then some src else some b
  else best

/-- The winner: highest effective level, then lowest source number (R130). -/
def State.winner (s : State) : Option Source := allSources.foldl s.better none

/-! ### Journal -/

/-- The critical sources are SUP, LNK, TBL and CLK, 18-21. -/
def isCritical (src : Source) : Bool := decide (18 ≤ src.val)

/-- A record is protected (R115). -/
def RecBody.isProtected (b : RecBody) : Bool :=
  (match b.kind with
   | .safeEntry _ _ => true
   | .escalate _ => true
   | .resetMark _ => true
   | .assert _ _ => b.cls == some .latch || b.cls == some .safe
   | _ => false) ||
  (match b.source with
   | some src => isCritical src
   | none => false)

/-! ### Link and resets -/

/-- A POR or PIN lasts: the link does not respond and no tick runs (R170). -/
def State.inReset (s : State) : Bool := s.pins.supplyLow || s.pins.nrstLow

/-- The status byte (R159). -/
def State.statusByte (s : State) : Byte :=
  (if s.outs.nIrq then 0x80 else 0) |||
  (if s.inHold then 0x40 else 0) |||
  (if s.staging.locked then 0x20 else 0) |||
  (if s.journal.queue.isEmpty then 0 else 0x10) |||
  (if s.clk.src = .backup then 0x08 else 0) |||
  (if s.link.confirm.isSome then 0x04 else 0) |||
  (if s.arb.hd = 0 then 0 else 0x02) |||
  (if s.link.resultNew then 0x01 else 0)

/-- The level of a gate-enable output now (R86-R90): its fixed level, or its PWM pin under layer 5. Outputs 0-3 are
GA0-GA3, outputs 4-7 are GB0-GB3. -/
def State.outLevel (s : State) (i : Fin 8) : Bool :=
  if s.outs.layers[i] = .pwm then
    if i.val < 4 then s.pins.pa.getLsbD i.val else s.pins.pb.getLsbD (i.val - 4)
  else s.outs.level.getLsbD i.val

end Sys2Proof.Machine
end

