-- ==== Sys2Proof/Machine/Ops.lean ====
section
/-! DEFINITION. The shared operations: storing a record (R116-R119), an occurrence (R126-R128), the channel transitions
outside the marks (R63-R65), adding a cause of Safe-Hold (R99, R100), the consequences of an assertion and of a drop (R14,
R29, R31), the recompute of the outputs and of nIRQ (R86-R91, R131), the reset step of CMD and PROT (R171) and the raise
of a hard critical (R145, R147). -/

namespace Sys2Proof.Machine

/-! ### The course of a tick -/

/-- How a part of a tick ends: it goes on, or a reset has abandoned the tick (R15). -/
inductive Progress where
  | goes (s : State)
  | abandoned (s : State)

/-- The state a part of a tick leaves, however it ends. -/
def Progress.st : Progress → State
  | .goes s => s
  | .abandoned s => s

/-- The next part runs only if no reset has abandoned the tick. -/
def Progress.bind (p : Progress) (f : State → Progress) : Progress :=
  match p with
  | .goes s => f s
  | .abandoned s => .abandoned s

/-! ### Elements of the vectors -/

/-- Line k replaced. -/
def State.setLine (s : State) (k : LineNo) (l : Line) : State := { s with lines := s.lines.set k.val l k.isLt }

/-- Channel k replaced. -/
def State.setChan (s : State) (k : Channel) (c : Chan) : State := { s with chans := s.chans.set k.val c k.isLt }

/-- The pending state of a source replaced. -/
def State.setPend (s : State) (src : Source) (p : Option Pend) : State :=
  { s with arb := { s.arb with pend := s.arb.pend.set src.val p src.isLt } }

/-- Every channel changed by `f`, CH0 to CH3. -/
def State.mapChans (s : State) (f : Channel → Chan → Chan) : State :=
  { s with chans := Vector.ofFn fun k => f k s.chans[k] }

/-! ### Occurrences -/

/-- An occurrence of a source (R127, R128): pending with count 1 and this first-seq, or one more on the count. -/
def State.occur (s : State) (src : Source) (seq : Option Word) : State :=
  match s.arb.pend[src] with
  | none => s.setPend src (some ⟨1, seq⟩)
  | some p => s.setPend src (some { p with count := satInc p.count })

/-! ### Journal -/

/-- The queue without its oldest unprotected record, or none if every record is protected (R117). -/
def evictOldest : List Rec → Option (List Rec)
  | [] => none
  | r :: rest => if r.body.isProtected then (evictOldest rest).map (r :: ·) else some rest

/-- A record at the tail, with the present next-seq and lost tally (R116, steps 1-3). -/
def Journal.append (j : Journal) (queue : List Rec) (b : RecBody) : Journal :=
  { j with queue := queue ++ [⟨j.nextSeq, j.lost, b⟩], nextSeq := j.nextSeq + 1, lost := 0 }

/-- A record dropped (R118). -/
def Journal.drop (j : Journal) (b : RecBody) : Journal :=
  { j with lost := satInc j.lost, lostCnt := satInc j.lostCnt, protOverflow := j.protOverflow || b.isProtected }

/-- What became of an offered record: the journal, the seq if it was stored, and whether the store raised the occupancy. -/
structure Offered where
  journal : Journal
  seq     : Option Word
  raised  : Bool

/-- The insertion policy (R116, Table 7-3). -/
def Journal.offer (j : Journal) (b : RecBody) : Offered :=
  let n := j.queue.length
  if b.isProtected then
    if n < Config.journalSlots then ⟨j.append j.queue b, some j.nextSeq, true⟩
    else
      match evictOldest j.queue with
      | some q => ⟨{ j.append q b with evictCnt := satInc j.evictCnt }, some j.nextSeq, false⟩
      | none => ⟨j.drop b, none, false⟩
  else if n < Config.journalReserveAt then ⟨j.append j.queue b, some j.nextSeq, true⟩
  else ⟨j.drop b, none, false⟩

/-- The store that raised the occupancy crossed the threshold (R123). -/
def Journal.crosses (j : Journal) (raised : Bool) : Bool :=
  raised && j.jt != 0 && j.queue.length == j.jt.val

/-- A created record is offered to the journal; a crossing is an occurrence of JTH if the active JTH level is above 0 (R116,
R123). The answer holds the seq if the record was stored (R125). -/
def State.offer (s : State) (b : RecBody) : State × Option Word :=
  let o := s.journal.offer b
  let s1 := { s with journal := o.journal }
  let s2 := if o.journal.crosses o.raised && s1.effLevel jth != 0 then s1.occur jth none else s1
  (s2, o.seq)

/-- A record without use for its seq. -/
def State.record (s : State) (b : RecBody) : State := (s.offer b).1

/-- An Assert record (Table 7-1). -/
def State.assertBody (s : State) (src : Source) (mask : ChannelMask) (cls : TripClass) (level : Level)
    (kind : Option TripKind) : RecBody :=
  ⟨.assert level kind, some src, mask, some cls, s.time.tstamp⟩

/-- A Clear record (Table 7-1). -/
def State.clearBody (s : State) (src : Source) (mask : ChannelMask) (disabled : Bool) : RecBody :=
  ⟨.clear disabled, some src, mask, none, s.time.tstamp⟩

/-- A record that concerns no source, but for a SafeEntry of cause SOURCE (Table 7-2). -/
def State.plainBody (s : State) (kind : RecKind) (src : Option Source) (mask : ChannelMask) : RecBody :=
  ⟨kind, src, mask, none, s.time.tstamp⟩

/-- The one-channel mask of a Release or Escalate record. -/
def maskOf (k : Channel) : ChannelMask := 1#4 <<< k.val

/-! ### Channel transitions outside the marks -/

/-- The entry into CYCLE (R63). -/
def Chan.enterCycle (c : Chan) : Chan :=
  { c with st := .cycle, persist := 0, timer := 0, enteredCycle := true }

/-- A cycle cause appears (R63, R66). -/
def Chan.cycleCause (c : Chan) : Chan := if c.st = .normal then c.enterCycle else c

/-- A latch cause appears, or Safe-Hold is entered: the entry into LATCHED (R64, R65). -/
def Chan.latchCause (c : Chan) : Chan :=
  if c.st = .latched then c
  else { c with st := .latched, persist := 0, timer := 0, ind := if c.st = .clearing then .cancelled else c.ind }

/-- A contribution's cause appears on a channel (R62). -/
def Contribution.appearsOn (x : Contribution) (k : Channel) (c : Chan) : Chan :=
  if x.mask.getLsbD k.val then
    match x.cls with
    | .cycle => c.cycleCause
    | .latch => c.latchCause
    | _ => c
  else c

/-! ### Safe-Hold entry -/

/-- A cause is added to the cause set (R99, R100). -/
def State.addCause (s : State) (c : Cause) (src : Option Source) : State :=
  if s.causes = 0 then
    let s1 := { s with causes := c.bits }.mapChans fun _ ch => ch.latchCause
    s1.record (s1.plainBody (.safeEntry c true) src 0)
  else if s.causes &&& c.bits = 0 then
    let s1 := { s with causes := s.causes ||| c.bits }
    s1.record (s1.plainBody (.safeEntry c false) src 0)
  else s

/-! ### Contributions -/

/-- The contribution that an active entry gives at a given level (R29, R33, R152). -/
def State.capture (s : State) (src : Source) (level : Level) : Contribution :=
  let e := s.staging.actTab[src]
  ⟨e.cls, e.mask, level⟩

/-- The consequences of an assertion event after its capture, in the order of R14: channels, Safe-Hold, the Assert record
(if `record`), the pending state (if the level is above 0). -/
def State.asserted (s : State) (src : Source) (x : Contribution) (record : Bool) : State :=
  let s1 := s.mapChans x.appearsOn
  let s2 := if x.cls = .safe then s1.addCause .source (some src) else s1
  let (s3, seq) := if record then s2.offer (s2.assertBody src x.mask x.cls x.level none) else (s2, none)
  if x.level = 0 then s3 else s3.occur src seq

/-- The consequences of a drop after the contribution is gone: the Clear record, if one is created (R31). -/
def State.dropped (s : State) (src : Source) (x : Contribution) (record disabled : Bool) : State :=
  if record then s.record (s.clearBody src x.mask disabled) else s

/-! ### Output composition -/

/-- The layer that decides an output (R86-R90, Table 5-1). -/
def layerOf (inHold : Bool) (st : TripState) (cyclePresent : Bool) (latch cycle : Act) (ov : Override) : Layer :=
  if inHold then .safe
  else
    let held := st = .latched ∨ st = .clearing
    if held ∧ latch ≠ .pass then .latch
    else if (st = .cycle ∨ (held ∧ cyclePresent = true)) ∧ cycle ≠ .pass then .cycle
    else if ov ≠ .none then .override
    else .pwm

/-- The fixed level that a layer gives an output; layer 5 has none (Table 5-1). -/
def levelUnder (layer : Layer) (safeBit : Bool) (latch cycle : Act) (ov : Override) : Bool :=
  match layer with
  | .safe => safeBit
  | .latch => latch = .high
  | .cycle => cycle = .high
  | .override => ov = .high
  | .pwm => false

/-- The channel of an output: outputs 0-3 are GA0-GA3, outputs 4-7 are GB0-GB3 (Table 5-2). -/
def outChannel (i : Fin 8) : Channel := ⟨i.val % 4, Nat.mod_lt _ (by decide)⟩

/-- An output's latch action, cycle action and override in the active block (R86). -/
def State.outFields (s : State) (i : Fin 8) : Act × Act × Override :=
  let c := s.staging.actCh[outChannel i]
  if i.val < 4 then (c.latchA, c.cycleA, c.overrideA) else (c.latchB, c.cycleB, c.overrideB)

/-- The layer that decides output i at a recompute (R86). -/
def State.layerNow (s : State) (i : Fin 8) : Layer :=
  let k := outChannel i
  let (la, cy, ov) := s.outFields i
  layerOf s.inHold s.chans[k].st (s.cyclePresent k) la cy ov

/-- The fixed level of output i at a recompute. -/
def State.levelNow (s : State) (i : Fin 8) : Bool :=
  let (la, cy, ov) := s.outFields i
  levelUnder (s.layerNow i) (s.safepat.getLsbD i.val) la cy ov

/-- Eight levels as a byte, output 0 in bit 0. -/
def byteOfLevels (f : Fin 8 → Bool) : Byte :=
  bit 8 (f 0) ||| (bit 8 (f 1) <<< 1) ||| (bit 8 (f 2) <<< 2) ||| (bit 8 (f 3) <<< 3) |||
  (bit 8 (f 4) <<< 4) ||| (bit 8 (f 5) <<< 5) ||| (bit 8 (f 6) <<< 6) ||| (bit 8 (f 7) <<< 7)

/-- The recompute of the eight outputs and nSAFE, all together (R91, R95). -/
def State.recomputeOutputs (s : State) : State :=
  { s with outs := { s.outs with
      layers := Vector.ofFn s.layerNow, level := byteOfLevels s.levelNow, nSafe := s.inHold } }

/-- The recompute of nIRQ, with the holdoff counter held to be nonzero or not (R131). -/
def State.recomputeIrq (s : State) (holding : Bool) : State :=
  { s with outs := { s.outs with nIrq := allSources.any (s.eligibleWith holding) } }

/-! ### Result records -/

/-- A result record is stored: RESULT_NEW is set, and a record captured earlier is no longer the most recent (R159). -/
def State.storeResult (s : State) (kind : BitVec 2) (tag : BitVec 6) (outcome : Byte) (payload : Quad) : State :=
  { s with link := { s.link with
      result := ⟨kind, tag, outcome, payload⟩, resultNew := true,
      flight := s.link.flight.map fun q => { q with current := false } } }

/-! ### The reset step of CMD and PROT -/

/-- The code of a reset kind (Table 11-1, R168). -/
def ResetKind.code : ResetKind → Byte
  | .por => 0
  | .pin => 1
  | .cmd => 2
  | .prot _ => 3

/-- The code of a reset's PROT cause, 0 for another kind (Table 11-1, R168). -/
def ResetKind.causeCode : ResetKind → Byte
  | .prot .conflict => 1
  | .prot .linkEscalation => 2
  | _ => 0

/-- The sticky bit of a reset kind (R173). -/
def ResetKind.stickyBit : ResetKind → BitVec 4
  | .por => 1
  | .pin => 2
  | .cmd => 4
  | .prot _ => 8

/-- The host link as every reset leaves it (R168); a transaction whose nCS is low is abandoned. -/
def Link.reset (l : Link) (kind : ResetKind) : Link :=
  { l with
    result := ⟨0, 0, 0x0A, ⟨kind.code, kind.causeCode, 0, 0⟩⟩, resultNew := true,
    confirm := none, replay := none, chain := false, waiting := [], owed := false
    flight := l.flight.map fun q => { q with dead := true } }

/-- A line as a CMD or PROT reset leaves it (R19). -/
def Line.softReset (cold : Bool) (l : Line) : Line :=
  ⟨if cold then LineCfg.default else l.cfg, .idle, none, 0⟩

/-- The staged configuration as a CMD or PROT reset leaves it (R39, R40, R49, R57). -/
def Staging.softReset (cold : Bool) (g : Staging) : Staging where
  shTab := Vector.replicate 22 Entry.default
  actTab := Vector.replicate 22 Entry.default
  shCh := if cold then Vector.replicate 4 ChanCfg.default else g.shCh
  actCh := if cold then Vector.replicate 4 ChanCfg.default else g.actCh
  tableValid := false
  armedTable := none
  armedCh := 0
  locked := g.locked

/-- The keepalive supervisor as a CMD or PROT reset leaves it (R148, R149). With CW 0, R150 has OPEN entered in the
tick of entry, which a PROT abandons (R15, R171); the supervisor stays CLOSED here and opens at its item of the next
tick (DEDUCED, log entry 29: unsafe). -/
def Watchdog.softReset (cold : Bool) (w : Watchdog) : Watchdog :=
  if cold then ⟨0, 16, .off, 0, 0, 0, false, none⟩
  else if w.st = .off then ⟨w.cw, w.ow, .off, 0, 0, 0, false, none⟩
  else ⟨w.cw, w.ow, .closed, 0, 0, w.cw, false, none⟩

/-- The arbiter as a CMD or PROT reset leaves it (R127, R132-R134, R138). -/
def Arbiter.softReset (cold : Bool) (a : Arbiter) : Arbiter :=
  ⟨Vector.replicate 22 none, 0, if cold then false else a.nestOff, [], 0⟩

/-- The tick boundary that ends a tick in which the clear of R10 was handled: the clock source returns to REF. -/
def ClockMon.endTick (c : ClockMon) : ClockMon :=
  if c.toRef then { c with src := .ref, toRef := false } else c

/-- Steps 1 to 3 of the reset step (R171): every block's state, the host link and RSTCAUSE. `cold` is CMD. RAWIN and the
INSTAT samples stay (DESIGN CHOICE, log entry 10: unsafe). -/
def State.softResetBlocks (s : State) (kind : ResetKind) (cold : Bool) : State :=
  { s with
    time := { s.time with hold := 0, wmPrev := none }
    clk := s.clk.endTick
    tick := none
    lines := Vector.ofFn fun k : LineNo => s.lines[k].softReset cold
    sup := ⟨.idle, none⟩
    safeIn := .idle
    staging := s.staging.softReset cold
    scrub := Scrubber.reset
    chans := Vector.replicate 4 Chan.reset
    causes := if cold then Cause.startup.bits else s.causes ||| Cause.startup.bits
    arb := s.arb.softReset cold
    wdg := s.wdg.softReset cold
    link := s.link.reset kind
    counters := if cold then ⟨0, 0, 0⟩ else s.counters
    rstcause := ⟨kind, s.rstcause.sticky ||| kind.stickyBit⟩ }

/-- The SafeEntry record of a CMD or PROT reset, by its "first" value, from the cause set that stood before (Table 6-2). -/
def resetEntry (cold : Bool) (before : BitVec 6) : Option Bool :=
  if cold ∨ before = 0 then some true
  else if before &&& Cause.startup.bits = 0 then some false
  else none

/-- The reset step of CMD and PROT (R171). -/
def State.softReset (s : State) (kind : ResetKind) (cold : Bool) : State :=
  let s1 := s.softResetBlocks kind cold
  let s2 := s1.record (s1.plainBody (.resetMark kind) none 0)
  let s3 := match resetEntry cold s.causes with
    | some first => s2.record (s2.plainBody (.safeEntry .startup first) none 0)
    | none => s2
  let s4 := s3.recomputeOutputs
  s4.recomputeIrq (s4.arb.hd != 0)

/-- The CMD reset (R172). -/
def State.cmdReset (s : State) : State := s.softReset .cmd true

/-- A Protective reset (R147, R154). -/
def State.protReset (s : State) (why : ProtCause) : State := s.softReset (.prot why) false

/-! ### Hard criticals -/

/-- The raise of TBL or CLK: cause, Assert record, pending state, then the conflict check against the other (R145, R147). -/
def State.raiseHard (s : State) (src : Source) (cause : Cause) (other : Source) : Progress :=
  let s1 := s.addCause cause none
  let (s2, seq) := s1.offer (s1.assertBody src 0xF .safe (s1.effLevel src) none)
  let s3 := s2.occur src seq
  if s3.unserved other then .abandoned (s3.protReset .conflict) else .goes s3

/-- The Clear record of TBL or CLK (R55, R10). -/
def State.clearHard (s : State) (src : Source) : State := s.record (s.clearBody src 0xF false)

end Sys2Proof.Machine
end

