-- ==== Sys2Proof/Machine/Conditioners.lean ====
section
/-! DEFINITION. The conditioners of the fault lines, of the supply droop comparator and of SAFE_IN (R20-R34): one
transition function, the items of phase 2 built on it, and the effect of a write to LINEMODE. -/

namespace Sys2Proof.Machine

/-- What a conditioner's transition of one tick amounts to (Table 2-2). -/
inductive CondEvent where
  | none
  | assertion
  | clear
  | glitch
  deriving DecidableEq, Repr

/-- The transition of one tick (Table 2-2, R21-R25); `af` and `rf` are latched only on entry to a counting state. -/
def Cond.step (c : Cond) (af rf : Byte) (active : Bool) : Cond × CondEvent :=
  match c with
  | .idle =>
    if active then (if af = 0 then (.asserted, .assertion) else (.qualifying 0 af, .none)) else (.idle, .none)
  | .qualifying n limit =>
    if active then (if n + 1 = limit then (.asserted, .assertion) else (.qualifying (n + 1) limit, .none))
    else (.idle, .glitch)
  | .asserted =>
    if active then (.asserted, .none) else (if rf = 0 then (.idle, .clear) else (.releasing 0 rf, .none))
  | .releasing n limit =>
    if active then (.asserted, .none)
    else (if n + 1 = limit then (.idle, .clear) else (.releasing (n + 1) limit, .none))

/-! ### Lines -/

/-- A pin level that is raw active under a line's polarity (R20). -/
def LineCfg.rawActive (c : LineCfg) (level : Bool) : Bool := level != c.activeLow

/-- The assertion event of line k (R21, R22, R29). -/
def State.assertLine (s : State) (k : LineNo) : State :=
  let src := lineSrc k
  let e := s.staging.actTab[src]
  let x := s.capture src (levelOf e.level)
  let s1 := s.setLine k { s.lines[k] with cond := .asserted, contrib := some x }
  s1.asserted src x e.record

/-- The end of line k's contribution: its conditioner is idle, and the Clear record follows if one is created (R31, R28). -/
def State.dropLine (s : State) (k : LineNo) (record disabled : Bool) : State :=
  let l := s.lines[k]
  let s1 := s.setLine k { l with cond := .idle, contrib := none }
  match l.contrib with
  | some x => s1.dropped (lineSrc k) x record disabled
  | none => s1

/-- Line k's item of phase 2 on a raw activity (R20-R26). -/
def State.lineRaw (s : State) (k : LineNo) (active : Bool) : State :=
  let l := s.lines[k]
  match l.cond.step l.cfg.af l.cfg.rf active with
  | (_, .assertion) => s.assertLine k
  | (_, .clear) => s.dropLine k l.cfg.recordClear false
  | (c, .glitch) => s.setLine k { l with cond := c, glitch := satInc l.glitch }
  | (c, .none) => s.setLine k { l with cond := c }

/-- Line k's item of phase 2 on the tick's sample; a disabled line is not evaluated (R20). -/
def State.lineItem (s : State) (k : LineNo) (level : Bool) : State :=
  let c := s.lines[k].cfg
  if c.enable then s.lineRaw k (c.rawActive level) else s

/-- The store of LINEMODEk with the effect of R28 on Enable and of R27 on polarity. -/
def State.writeLineMode (s : State) (k : LineNo) (w : Word) : State :=
  let l := s.lines[k]
  let cfg := { l.cfg with enable := w.getLsbD 0, activeLow := w.getLsbD 1, recordClear := w.getLsbD 2 }
  let s1 := s.setLine k { l with cfg := cfg }
  if cfg.enable then
    if l.cfg.enable then s1 else s1.setLine k { l with cfg := cfg, glitch := 0 }
  else
    match l.cond with
    | .idle => s1
    | .qualifying _ _ => s1.setLine k { l with cfg := cfg, cond := .idle }
    | .asserted => s1.dropLine k true true
    | .releasing _ _ => s1.dropLine k true true

/-- The store of LINEFLTk: AF in the high byte, RF in the low byte; no running count changes (R25). -/
def State.writeLineFlt (s : State) (k : LineNo) (w : Word) : State :=
  let l := s.lines[k]
  s.setLine k { l with cfg := { l.cfg with af := hiByte w, rf := loByte w } }

/-! ### SUP -/

/-- The SUP assertion event: level 8, always recorded, always an occurrence (R33). -/
def State.assertSup (s : State) : State :=
  let x := s.capture supSrc 8
  let s1 := { s with sup := ⟨.asserted, some x⟩ }
  s1.asserted supSrc x true

/-- The SUP clear event: the Clear record is always created (R33). -/
def State.clearSup (s : State) : State :=
  let s1 := { s with sup := ⟨.idle, none⟩ }
  match s.sup.contrib with
  | some x => s1.dropped supSrc x true false
  | none => s1

/-- The SUP item of phase 2 (R32). -/
def State.supItem (s : State) (low : Bool) : State :=
  match s.sup.cond.step Config.supAssertLimit Config.supReleaseLimit low with
  | (_, .assertion) => s.assertSup
  | (_, .clear) => s.clearSup
  | (c, _) => { s with sup := { s.sup with cond := c } }

/-! ### SAFE_IN -/

/-- SAFE_IN becomes active: cause INPUT (R34, R98). -/
def State.activateSafeIn (s : State) : State :=
  let s1 := { s with safeIn := .asserted }
  s1.addCause .input none

/-- The SAFE_IN item of phase 2; the pin is active low (R34). -/
def State.safeInItem (s : State) (level : Bool) : State :=
  match s.safeIn.step Config.safeInLimit Config.safeInLimit (!level) with
  | (_, .assertion) => s.activateSafeIn
  | (c, _) => { s with safeIn := c }

end Sys2Proof.Machine
end

