-- ==== Sys2Proof/Machine/Staging.lean ====
section
/-! DEFINITION. The staged configuration: entries and channel blocks as register words (Table 3-1, Table 3-3), the commit
CRC (R43), what a commit does (R45, R47, R50-R53), arming and disarming (R46, R48), and the scrubber (R54, R55). -/

namespace Sys2Proof.Machine

/-! ### Words of the table -/

/-- The code of a trip class (Table 3-1). -/
def TripClass.code : TripClass → BitVec 2
  | .noTrip => 0
  | .cycle => 1
  | .latch => 2
  | .safe => 3

/-- The trip class of a code. -/
def TripClass.ofCode (c : BitVec 2) : TripClass :=
  if c = 0 then .noTrip else if c = 1 then .cycle else if c = 2 then .latch else .safe

/-- Word 2s of an entry (Table 3-1). -/
def Entry.word0 (e : Entry) : Word := (e.cls.code.setWidth 16 <<< 8) ||| e.mask.setWidth 16

/-- Word 2s+1 of an entry (Table 3-1). -/
def Entry.word1 (e : Entry) : Word := (bit 16 e.record <<< 15) ||| BitVec.ofNat 16 e.level.val

/-- An entry with its first word written; unused bits are stored as 0 (R37). -/
def Entry.setWord0 (e : Entry) (w : Word) : Entry :=
  { e with cls := TripClass.ofCode (w.extractLsb' 8 2), mask := w.extractLsb' 0 4 }

/-- An entry with its second word written (R37). -/
def Entry.setWord1 (e : Entry) (w : Word) : Entry :=
  { e with record := w.getLsbD 15, level := (w.extractLsb' 0 3 : BitVec 3).toFin }

/-- The words of a table copy in address order (R37, R43). -/
def tableWords (t : Vector Entry 22) : List Word := t.toList.flatMap fun e => [e.word0, e.word1]

/-! ### Words of a channel block -/

/-- The code of an output action (Table 3-3). -/
def Act.code : Act → BitVec 2
  | .pass => 0
  | .low => 1
  | .high => 2

/-- The output action of a code; code 3 is refused before it is stored (R40). -/
def Act.ofCode (c : BitVec 2) : Act := if c = 0 then .pass else if c = 1 then .low else .high

/-- The code of an override mode (Table 3-3). -/
def Override.code : Override → BitVec 2
  | .none => 0
  | .low => 1
  | .high => 2

/-- The override mode of a code; code 3 is refused before it is stored (R40). -/
def Override.ofCode (c : BitVec 2) : Override := if c = 0 then .none else if c = 1 then .low else .high

/-- The code of a mark-edge selection (Table 3-3). -/
def MarkEdge.code : MarkEdge → BitVec 2
  | .rising => 0
  | .falling => 1
  | .both => 2

/-- The mark-edge selection of a code; code 3 is refused before it is stored (R40). -/
def MarkEdge.ofCode (c : BitVec 2) : MarkEdge := if c = 0 then .rising else if c = 1 then .falling else .both

/-- Word 0 of a channel block (Table 3-3). -/
def ChanCfg.word0 (c : ChanCfg) : Word :=
  (bit 16 c.recordReleases <<< 15) ||| (bit 16 c.clearAtMark <<< 14) |||
  (c.overrideB.code.setWidth 16 <<< 12) ||| (c.overrideA.code.setWidth 16 <<< 10) |||
  (c.latchB.code.setWidth 16 <<< 8) ||| (c.latchA.code.setWidth 16 <<< 6) |||
  (c.cycleB.code.setWidth 16 <<< 4) ||| (c.cycleA.code.setWidth 16 <<< 2) ||| c.edge.code.setWidth 16

/-- Word 1 of a channel block. -/
def ChanCfg.word1 (c : ChanCfg) : Word := c.ec.setWidth 16

/-- Word 2 of a channel block. -/
def ChanCfg.word2 (c : ChanCfg) : Word := c.mt

/-- Word i of a channel block. -/
def ChanCfg.wordAt (c : ChanCfg) (i : Fin 3) : Word :=
  if i = 0 then c.word0 else if i = 1 then c.word1 else c.word2

/-- A channel block with word i written; unused bits are stored as 0 (R40). -/
def ChanCfg.setWord (c : ChanCfg) (i : Fin 3) (w : Word) : ChanCfg :=
  if i = 0 then
    { c with
      recordReleases := w.getLsbD 15, clearAtMark := w.getLsbD 14
      overrideB := Override.ofCode (w.extractLsb' 12 2), overrideA := Override.ofCode (w.extractLsb' 10 2)
      latchB := Act.ofCode (w.extractLsb' 8 2), latchA := Act.ofCode (w.extractLsb' 6 2)
      cycleB := Act.ofCode (w.extractLsb' 4 2), cycleA := Act.ofCode (w.extractLsb' 2 2)
      edge := MarkEdge.ofCode (w.extractLsb' 0 2) }
  else if i = 1 then { c with ec := loByte w }
  else { c with mt := w }

/-- A word 0 that would store the undefined code 3 in one of its seven encoded fields (R40, R41). -/
def badChanWord (w : Word) : Bool :=
  [0, 2, 4, 6, 8, 10, 12].any fun i => (w.extractLsb' i 2 : BitVec 2) == 3

/-- The words of a channel block in address order. -/
def chanWords (c : ChanCfg) : List Word := [c.word0, c.word1, c.word2]

/-! ### Commits -/

/-- The device's CRC over a scope's shadow (R43). -/
def State.shadowCrc (s : State) : Scope → Word
  | .table => crc16 (tableWords s.staging.shTab)
  | .channel k => crc16 (chanWords s.staging.shCh[k])

/-- The mark channel of a scope's armed commit, if it is armed (R46). -/
def Staging.armed (g : Staging) : Scope → Option Channel
  | .table => g.armedTable
  | .channel k => if g.armedCh.getLsbD k.val then some k else none

/-- The armed indications with channel k's set or cleared. -/
def setArmed (m : BitVec 4) (k : Channel) (on : Bool) : BitVec 4 :=
  if on then m ||| maskOf k else m &&& ~~~(maskOf k)

/-- A scope armed to a mark channel (R46). -/
def State.arm (s : State) (scope : Scope) (mark : Channel) : State :=
  match scope with
  | .table => { s with staging := { s.staging with armedTable := some mark } }
  | .channel k => { s with staging := { s.staging with armedCh := setArmed s.staging.armedCh k true } }

/-- A scope returned to idle (R47, R48). -/
def State.disarm (s : State) (scope : Scope) : State :=
  match scope with
  | .table => { s with staging := { s.staging with armedTable := none } }
  | .channel k => { s with staging := { s.staging with armedCh := setArmed s.staging.armedCh k false } }

/-- One cancellation more on CANCELCNT (R142). -/
def State.countCancel (s : State) : State :=
  { s with counters := { s.counters with cancel := satInc s.counters.cancel } }

/-- A TABLE commit's discard of one source: pending, and its new active level is 0 (R52). -/
def State.discardOne (s : State) (src : Source) : State :=
  if s.isPending src && s.effLevel src == 0 then (s.setPend src none).countCancel else s

/-- The sources whose level comes from the table, in natural order (R52). -/
def tableSources : List Source := [0, 1, 2, 3, 4, 5, 6, 7, 8, 9, 10, 11, 12, 13, 14, 15, 16, 17]

/-- The consequences of a TABLE commit after its copy: table-valid, the reference CRC, the scrubber's restart and the
discards (R50, R52). -/
def State.tableCommitted (s : State) : State :=
  let s1 := { s with
    staging := { s.staging with tableValid := true }
    scrub := { s.scrub with
      position := 0, pacing := 0, acc := 0xFFFF, ref := crc16 (tableWords s.staging.actTab) } }
  tableSources.foldl State.discardOne s1

/-- The copy of a scope's shadow into its active copy (R45). -/
def State.copyScope (s : State) (scope : Scope) : State :=
  match scope with
  | .table => { s with staging := { s.staging with actTab := s.staging.shTab } }
  | .channel k =>
    { s with staging := { s.staging with actCh := s.staging.actCh.set k.val s.staging.shCh[k] k.isLt } }

/-- A commit that applies: copy, consequences, CommitApplied record (R45, R47). An armed scope is idle by then. -/
def State.applyCommit (s : State) (scope : Scope) : State :=
  let s1 := s.copyScope scope
  let s2 := match scope with
    | .table => s1.tableCommitted
    | .channel _ => s1
  s2.record (s2.plainBody (.commitApplied scope) none 0)

/-- An armed commit applies in phase 4: its scope returns to idle first (R47). -/
def State.applyArmed (s : State) (scope : Scope) : State := (s.disarm scope).applyCommit scope

/-! ### Scrubber -/

/-- The accumulator after the read of the entry at the scrubber's position (R54). -/
def State.scrubAcc (s : State) : Word :=
  let e := s.staging.actTab[s.scrub.position]
  crc16Word (crc16Word s.scrub.acc e.word0) e.word1

/-- The end of a pass: the next pass starts, and the comparison acts on the TBL condition (R55, Table 3-4). -/
def State.scrubPassEnd (s : State) : Progress :=
  let matches_ := s.scrubAcc == s.scrub.ref
  let next := { s.scrub with position := 0, pacing := 0, acc := 0xFFFF, tblCond := !matches_ }
  let s1 := { s with scrub := next }
  if matches_ then
    if s.scrub.tblCond then .goes (s1.clearHard tblSrc) else .goes s1
  else if s.scrub.tblCond then .goes s1
  else s1.raiseHard tblSrc .table clkSrc

/-- The read of one entry, which at entry 21 ends the pass (R54, R55). -/
def State.scrubRead (s : State) : Progress :=
  if h : s.scrub.position.val + 1 < 22 then
    .goes { s with scrub := { s.scrub with position := ⟨s.scrub.position.val + 1, h⟩, pacing := 0, acc := s.scrubAcc } }
  else s.scrubPassEnd

/-- The scrubber's item of phase 2; it runs exactly while table-valid is true (R54). -/
def State.scrubItem (s : State) : Progress :=
  if s.staging.tableValid then
    if s.scrub.pacing.val < Config.scrubLastPace then
      .goes { s with scrub := { s.scrub with pacing := s.scrub.pacing + 1 } }
    else s.scrubRead
  else .goes s

end Sys2Proof.Machine
end

