-- ==== Sys2Proof/Machine/Verdicts.lean ====
section
/-! DEFINITION. Outcomes and refusal reasons with their codes (R160, Tables 10-3 and 10-4), what an action answers, and the
confirmation check of the confirmed actions (R165). -/

namespace Sys2Proof.Machine

/-- The refusal reasons (Table 10-4). -/
inductive Reason where
  | range
  | emptyMask
  | commitCrc
  | notLatched
  | inSafe
  | causeActive
  | echoMismatch
  | exitBlocked
  | seqMismatch
  | stackFull
  | wrongSource
  | levelLocked
  | stackBusy
  | notArmed
  | alreadyArmed
  | early
  | badToken
  | notConfirmed
  | notValid
  deriving DecidableEq, Repr

/-- The reason number r of Table 10-4. -/
def Reason.number : Reason → Byte
  | .range => 1
  | .emptyMask => 2
  | .commitCrc => 3
  | .notLatched => 4
  | .inSafe => 5
  | .causeActive => 6
  | .echoMismatch => 7
  | .exitBlocked => 8
  | .seqMismatch => 9
  | .stackFull => 10
  | .wrongSource => 11
  | .levelLocked => 12
  | .stackBusy => 13
  | .notArmed => 14
  | .alreadyArmed => 15
  | .early => 16
  | .badToken => 17
  | .notConfirmed => 18
  | .notValid => 19

/-- The outcomes of a judged transaction (Table 10-3), but for Replayed, which `replayedByte` gives, and ResetNotice, which
a reset stores. -/
inductive Verdict where
  | ok
  | nothing
  | frameCrc
  | frameShort
  | badKind
  | badAddress
  | readOnly
  | locked
  | shadowBusy
  | stackEmpty
  | refused (why : Reason)
  deriving DecidableEq, Repr

/-- The outcome byte (Table 10-3). -/
def Verdict.byte : Verdict → Byte
  | .ok => 0x00
  | .nothing => 0x01
  | .frameCrc => 0x02
  | .frameShort => 0x03
  | .badKind => 0x04
  | .badAddress => 0x05
  | .readOnly => 0x06
  | .locked => 0x07
  | .shadowBusy => 0x08
  | .stackEmpty => 0x09
  | .refused why => 0x80 + why.number

/-- The outcome byte of a replay of an original outcome byte (Table 10-3). -/
def replayedByte (v : Byte) : Byte := 0x40 + v

/-- What an action answers in its phase 1 step: the state it leaves with its outcome and payload, or a reset whose step has
stored its own result in their place (R172). -/
inductive ActOut where
  | done (s : State) (v : Verdict) (p : Quad)
  | reset (s : State)

/-- A refusal that changes nothing. -/
def refuse (s : State) (why : Reason) (p : Quad) : ActOut := .done s (.refused why) p

/-- A confirmed action passes only if the confirmation armed immediately before it names its code and carries its
argument byte 3; NotConfirmed answers the code armed, or 0 (R165). Payload bytes 1 to 3 of NotConfirmed are not stated
and are 0 (DEDUCED, log entry 25). -/
def ifConfirmed (code : Byte) (armed : Option Confirmation) (args : Quad) (s : State) (act : State → ActOut) : ActOut :=
  match armed with
  | some c => if c.code = code ∧ c.challenge = args.b3 then act s else refuse s .notConfirmed ⟨c.code, 0, 0, 0⟩
  | none => refuse s .notConfirmed Quad.zero

/-- A level as a payload byte. -/
def levelByte (l : Level) : Byte := BitVec.ofNat 8 l.val

/-- A source as a payload byte. -/
def sourceByte (src : Source) : Byte := BitVec.ofNat 8 src.val

/-- A channel as a payload byte. -/
def channelByte (k : Channel) : Byte := BitVec.ofNat 8 k.val

/-- A mask as a payload byte. -/
def maskByte (m : ChannelMask) : Byte := m.setWidth 8

/-- The cause set as a byte (R97). -/
def causeByte (c : BitVec 6) : Byte := c.setWidth 8

end Sys2Proof.Machine
end

