-- ==== Sys2Proof/Machine/Configuration.lean ====
section
/-! DEFINITION. The phase 1 steps of the actions on configuration, lock, confirmation, counters and reset: COMMIT (R44-R46),
ABORT_COMMIT (R48), LOCK (R57), UNLOCK (R58), CONFIRM (R165), RESET_DEVICE (R172), SELFTEST (R56), CLEAR_COUNTERS (R176) and
CLEAR_CAUSE (R174). -/

namespace Sys2Proof.Machine

/-! ### COMMIT and ABORT_COMMIT -/

/-- COMMIT's arguments past the range check: the scope and, for ATMARK, its mark channel (R44, check 1). -/
def commitArgs (args : Quad) : Option (Scope × Option Channel) :=
  match scopeArg args.b0, timingArg args.b1 with
  | some scope, some timing =>
    match scope, timing with
    | .channel k, some m => if m = k then some (scope, timing) else none
    | _, _ => some (scope, timing)
  | _, _ => none

/-- COMMIT on a scope and timing in range (R44, checks 2 and 3; R45, R46). Payload bytes 0 and 1 of a CommitCrc refusal are
not stated and are 0 (DEDUCED, log entry 25). -/
def commitChecked (scope : Scope) (timing : Option Channel) (args : Quad) (s : State) : ActOut :=
  match s.staging.armed scope with
  | some m => .done s .shadowBusy ⟨args.b0, channelByte m, 0, 0⟩
  | none =>
    let own := s.shadowCrc scope
    if word23 args ≠ own then refuse s .commitCrc ⟨0, 0, hiByte own, loByte own⟩
    else
      match timing with
      | none => .done (s.applyCommit scope) .ok ⟨args.b0, 0, hiByte own, loByte own⟩
      | some m => .done (s.arm scope m) .ok ⟨args.b0, 1, hiByte own, loByte own⟩

/-- COMMIT (R44). -/
def actCommit (args : Quad) (s : State) : ActOut :=
  match commitArgs args with
  | none => refuse s .range Quad.zero
  | some (scope, timing) => commitChecked scope timing args s

/-- ABORT_COMMIT (R48). Payload bytes 1 to 3 of its success are not stated and are 0 (DEDUCED, log entry 25). -/
def actAbortCommit (args : Quad) (s : State) : ActOut :=
  match scopeArg args.b0 with
  | none => refuse s .range Quad.zero
  | some scope =>
    match s.staging.armed scope with
    | some m => .done (s.disarm scope) .ok ⟨channelByte m, 0, 0, 0⟩
    | none => .done s .nothing Quad.zero

/-! ### Lock -/

/-- LOCKED set or cleared. -/
def State.setLocked (s : State) (b : Bool) : State := { s with staging := { s.staging with locked := b } }

/-- LOCK (R57). -/
def actLock (s : State) : ActOut :=
  if s.staging.locked then .done s .nothing Quad.zero else .done (s.setLocked true) .ok Quad.zero

/-- UNLOCK (R58), code 16. -/
def actUnlock (armed : Option Confirmation) (args : Quad) (s : State) : ActOut :=
  ifConfirmed 16 armed args s fun s =>
    if s.staging.locked then .done (s.setLocked false) .ok Quad.zero else .done s .nothing Quad.zero

/-! ### Confirmation and reset -/

/-- The codes of the confirmed actions: EXIT_SAFE, UNLOCK, RESET_DEVICE, SELFTEST (R165, Table 10-5). -/
def isConfirmedCode (code : Byte) : Bool := code == 11 || code == 16 || code == 18 || code == 19

/-- CONFIRM (R165). Payload bytes 2 and 3 of its OK are not stated and are 0 (DEDUCED, log entry 25). -/
def actConfirm (args : Quad) (s : State) : ActOut :=
  if isConfirmedCode args.b0 then
    let challenge : Byte := s.time.tstamp.extractLsb' 0 8
    .done { s with link := { s.link with confirm := some ⟨args.b0, challenge⟩ } } .ok ⟨challenge, args.b0, 0, 0⟩
  else refuse s .range Quad.zero

/-- RESET_DEVICE (R172), code 18. -/
def actResetDevice (armed : Option Confirmation) (args : Quad) (s : State) : ActOut :=
  ifConfirmed 18 armed args s fun s => .reset s.cmdReset

/-- SELFTEST (R56), code 19. Payload byte 3 of its success is not stated and is 0 (DEDUCED, log entry 25). -/
def actSelftest (armed : Option Confirmation) (args : Quad) (s : State) : ActOut :=
  ifConfirmed 19 armed args s fun s =>
    if s.staging.tableValid then
      let ref := ~~~s.scrub.ref
      .done { s with scrub := { s.scrub with ref := ref } } .ok
        ⟨hiByte ref, loByte ref, BitVec.ofNat 8 s.scrub.position.val, 0⟩
    else refuse s .notValid Quad.zero

/-! ### Counters and reset cause -/

/-- CLEAR_COUNTERS (R176). -/
def actClearCounters (s : State) : ActOut :=
  .done { s with
    counters := ⟨0, 0, 0⟩
    journal := { s.journal with lostCnt := 0, evictCnt := 0, protOverflow := false } } .ok Quad.zero

/-- CLEAR_CAUSE (R174). -/
def actClearCause (s : State) : ActOut :=
  let sticky := s.rstcause.sticky
  .done { s with rstcause := { s.rstcause with sticky := 0 } } (if sticky = 0 then .nothing else .ok)
    ⟨maskByte sticky, 0, 0, 0⟩

end Sys2Proof.Machine
end

