-- ==== Sys2Proof/Machine/Supervision.lean ====
section
/-! DEFINITION. The keepalive supervisor's item (R150, R152-R154) and the clock monitor: its transitions (R7-R10), its item
of phase 2 (R7, R10, R145) and the count of backup periods that ticks give it (R1, R7). -/

namespace Sys2Proof.Machine

/-! ### Keepalive supervisor -/

/-- The code of a supervisor state (R149). -/
def WdgState.code : WdgState → Byte
  | .off => 0
  | .closed => 1
  | .opened => 2
  | .lapsed => 3

/-- The LNK raise: the contribution is captured at level 9 and acts; always recorded (R152). -/
def State.raiseLnk (s : State) : State :=
  let x := s.capture lnkSrc 9
  let s1 := { s with wdg := { s.wdg with lnk := some x } }
  s1.asserted lnkSrc x true

/-- The end of the LNK condition by a KEEPALIVE: the contribution is dropped with a Clear record (R153). -/
def State.clearLnk (s : State) : State :=
  let s1 := { s with wdg := { s.wdg with lnk := none } }
  match s.wdg.lnk with
  | some x => s1.dropped lnkSrc x true false
  | none => s1

/-- Entry to CLOSED: timer 0, CW latched (R148, R151). -/
def Watchdog.enterClosed (w : Watchdog) (fresh : Bool) : Watchdog :=
  { w with st := .closed, timer := 0, length := w.cw, fresh := fresh }

/-- Entry to OPEN: timer 0, OW latched (R148, R150). -/
def Watchdog.enterOpened (w : Watchdog) : Watchdog :=
  { w with st := .opened, timer := 0, length := w.ow, fresh := false }

/-- Entry to LAPSED: timer 0, OW latched (R148, R150, R151). -/
def Watchdog.enterLapsed (w : Watchdog) (fresh : Bool) : Watchdog :=
  { w with st := .lapsed, timer := 0, length := w.ow, fresh := fresh }

/-- The timer at the supervisor's item: one more, except in the tick in which the state was entered (R150). -/
def Watchdog.timerNow (w : Watchdog) : Nat := if w.fresh then w.timer else w.timer + 1

/-- The window timer has reached the latched length (R150). -/
def Watchdog.expires (w : Watchdog) : Bool := decide (w.length.toNat * Config.windowUnit ≤ w.timerNow)

/-- The supervisor's item of phase 2 (R150). -/
def State.wdgItem (s : State) : Progress :=
  let w := { s.wdg with timer := s.wdg.timerNow, fresh := false }
  let counted := { s with wdg := w }
  match s.wdg.st with
  | .off => .goes s
  | .closed => if s.wdg.expires then .goes { s with wdg := w.enterOpened } else .goes counted
  | .opened => if s.wdg.expires then .goes ({ s with wdg := w.enterLapsed false } : State).raiseLnk else .goes counted
  | .lapsed => if s.wdg.expires then .abandoned (counted.protReset .linkEscalation) else .goes counted

/-! ### Clock monitor -/

/-- REFCLK judged missing in GOOD: LOST, BACKUP, a raise handed off (R8). -/
def ClockMon.missing (c : ClockMon) : ClockMon :=
  { c with mon := .lost, src := .backup, gap := Config.gapLimit, recovery := 0,
           handOffs := c.handOffs ++ [.raise], toRef := false }

/-- REFCLK judged missing in RECOVERING: LOST again, nothing handed off (R9). -/
def ClockMon.lostAgain (c : ClockMon) : ClockMon :=
  { c with mon := .lost, gap := Config.gapLimit, recovery := 0 }

/-- The first rising edge seen in LOST (R8). -/
def ClockMon.returned (c : ClockMon) : ClockMon := { c with mon := .recovering, gap := 0, recovery := 0 }

/-- The recovery count reaches 4096: GOOD, count 0, a clear handed off (R10). -/
def ClockMon.recovered (c : ClockMon) : ClockMon :=
  { c with mon := .good, gap := 0, recovery := 0, handOffs := c.handOffs ++ [.clear] }

/-- A good period in RECOVERING (R9), which may be the one that completes the recovery (R10). -/
def ClockMon.goodPeriod (c : ClockMon) : ClockMon :=
  if c.recovery + 1 < Config.recoveryLimit then { c with gap := 0, recovery := c.recovery + 1 } else c.recovered

/-- What the beginning of a tick tells the monitor: on REF it is a rising edge of REFCLK, on BACKUP it is the end of one
backup period (R1, R7; DEDUCED, log entry 6). -/
def ClockMon.period (c : ClockMon) : ClockMon :=
  match c.src with
  | .ref => { c with gap := 0 }
  | .backup =>
    if c.gap + 1 < Config.gapLimit then { c with gap := c.gap + 1 }
    else
      match c.mon with
      | .good => c.missing
      | .lost => { c with gap := c.gap + 1 }
      | .recovering => c.lostAgain

/-- One hand-off handled at the monitor's item: the CLK raise (R8, R145), or the clear of R10. -/
def State.handOff (s : State) : HandOff → Progress
  | .raise =>
    ({ s with clk := { s.clk with cond := true, toRef := false } } : State).raiseHard clkSrc .clock tblSrc
  | .clear =>
    .goes (({ s with clk := { s.clk with cond := false, toRef := true } } : State).clearHard clkSrc)

/-- The hand-offs that await the monitor's item, in the order in which they were made; those a reset leaves unhandled stay
for the next tick (R7). -/
def handOffsFrom : List HandOff → State → Progress
  | [], s => .goes s
  | h :: rest, s =>
    (({ s with clk := { s.clk with handOffs := rest } } : State).handOff h).bind (handOffsFrom rest)

/-- The clock monitor's item of phase 2 (R7): the monitor's state reaches tick processing, and the hand-offs are handled. -/
def State.clkItem (s : State) : Progress :=
  handOffsFrom s.clk.handOffs { s with clk := { s.clk with seen := s.clk.mon } }

/-- A transition of the clock monitor, if the monitor stands where it can make it: a loss in GOOD (R8), the first edge in LOST
(R8), a loss in RECOVERING (R9), an edge that ends a good period (R9; in GOOD it only returns the gap count to 0, R7; in LOST
it is `returned`'s), and the good period that completes the recovery (R10). -/
def ClockMon.take (c : ClockMon) : ClockEvent → ClockMon
  | .missing => if c.mon = .good then c.missing else c
  | .returned => if c.mon = .lost then c.returned else c
  | .lostAgain => if c.mon = .recovering then c.lostAgain else c
  | .goodPeriod =>
    match c.mon with
    | .recovering => c.goodPeriod
    | .good => { c with gap := 0 }
    | .lost => c
  | .recovered => if c.mon = .recovering ∧ Config.recoveryLimit ≤ c.recovery + 1 then c.recovered else c

/-- A transition of the clock monitor, which changes the monitor alone (R7). -/
def State.clockEvent (s : State) (e : ClockEvent) : State := { s with clk := s.clk.take e }

end Sys2Proof.Machine
end

