-- ==== Sys2Proof/Machine/Protection.lean ====
section
/-! DEFINITION. The phase 1 steps of the actions that act on the protection itself: CLEAR_LATCH (R76-R79), FORCE_TRIP (R81,
R82), FORCE_SAFE (R104), EXIT_SAFE (R105-R107), JOURNAL_POP (R121), KEEPALIVE (R151-R153) and WDG_ARM (R149). -/

namespace Sys2Proof.Machine

/-! ### CLEAR_LATCH -/

/-- Why a named channel would not clear; none if it would (R77). -/
def State.clearBlock (s : State) (k : Channel) : Option Reason :=
  if s.chans[k].st ≠ .latched then some .notLatched
  else if s.inHold then some .inSafe
  else if s.latchPresent k then some .causeActive
  else none

/-- The per-channel code of CLEAR_LATCH (R77). -/
def State.clearCode (s : State) (mask : ChannelMask) (k : Channel) : BitVec 4 :=
  if mask.getLsbD k.val then
    match s.clearBlock k with
    | none => 1
    | some .notLatched => 2
    | some .inSafe => 3
    | some _ => 4
  else 0

/-- The channels in order. -/
def allChannels : List Channel := [0, 1, 2, 3]

/-- The reason of the first failing channel, CH0 to CH3 (R77). -/
def State.firstBlock (s : State) (mask : ChannelMask) : List Channel → Option Reason
  | [] => none
  | k :: rest =>
    if mask.getLsbD k.val then
      match s.clearBlock k with
      | some why => some why
      | none => s.firstBlock mask rest
    else s.firstBlock mask rest

/-- A named channel's successful clear: Immediate leaves LATCHED at once (R78), AtMark goes to CLEARING (R79). -/
def State.clearedChan (s : State) (k : Channel) (c : Chan) : Chan :=
  if s.staging.actCh[k].clearAtMark then { c with st := .clearing, ind := .pending }
  else
    let c1 := if s.cyclePresent k then c.enterCycle else { c with st := .normal }
    { c1 with ind := .none }

/-- A mask of the channels of which a test holds. -/
def maskWhere (p : Channel → Bool) : ChannelMask :=
  bit 4 (p 0) ||| (bit 4 (p 1) <<< 1) ||| (bit 4 (p 2) <<< 2) ||| (bit 4 (p 3) <<< 3)

/-- Payload bytes 2 and 3 of CLEAR_LATCH: the codes, CH0 in the high half of byte 2 (R77). -/
def State.clearPayload (s : State) (mask : ChannelMask) (b0 b1 : Byte) : Quad :=
  ⟨b0, b1, s.clearCode mask 0 ++ s.clearCode mask 1, s.clearCode mask 2 ++ s.clearCode mask 3⟩

/-- CLEAR_LATCH (R76-R79). -/
def actClearLatch (args : Quad) (s : State) : ActOut :=
  match maskArg args.b0 with
  | none => refuse s .range ⟨args.b0, 0, 0, 0⟩
  | some mask =>
    if mask = 0 then refuse s .emptyMask ⟨args.b0, 0, 0, 0⟩
    else
      match s.firstBlock mask allChannels with
      | some why => refuse s why (s.clearPayload mask 0 0)
      | none =>
        let atMark := fun k : Channel => mask.getLsbD k.val && s.staging.actCh[k].clearAtMark
        let atOnce := fun k : Channel => mask.getLsbD k.val && !s.staging.actCh[k].clearAtMark
        .done (s.mapChans fun k c => if mask.getLsbD k.val then s.clearedChan k c else c) .ok
          (s.clearPayload mask (maskByte (maskWhere atOnce)) (maskByte (maskWhere atMark)))

/-! ### FORCE_TRIP -/

/-- FORCE_TRIP's effect on a named channel: a latch cause appears, or the host-cycle pulse is set and is the cycle cause that
appears (R73, R82). -/
def TripKind.force (t : TripKind) (c : Chan) : Chan :=
  match t with
  | .latch => c.latchCause
  | .cycle => { c with pulse := true }.cycleCause

/-- The trip class an HST Assert record carries (Table 7-1). -/
def TripKind.cls : TripKind → TripClass
  | .cycle => .cycle
  | .latch => .latch

/-- FORCE_TRIP on checked arguments: channels, record, notification (R82). -/
def State.forceTrip (s : State) (mask : ChannelMask) (t : TripKind) : State :=
  let e := s.staging.actTab[hst]
  let s1 := s.mapChans fun k c => if mask.getLsbD k.val then t.force c else c
  let (s2, seq) := if e.record then s1.offer (s1.assertBody hst mask t.cls (levelOf e.level) (some t)) else (s1, none)
  if e.level = 0 then s2 else s2.occur hst seq

/-- FORCE_TRIP (R81, R82). -/
def actForceTrip (args : Quad) (s : State) : ActOut :=
  match tripKindArg args.b1, maskArg args.b0 with
  | some t, some mask =>
    if mask = 0 then refuse s .emptyMask Quad.zero
    else
      let s1 := s.forceTrip mask t
      let changed := maskWhere fun k => s.chans[k].st != s1.chans[k].st
      .done s1 .ok ⟨maskByte mask, args.b1, maskByte changed, 0⟩
  | _, _ => refuse s .range Quad.zero

/-! ### Safe-Hold -/

/-- FORCE_SAFE (R104). -/
def actForceSafe (s : State) : ActOut :=
  let s1 := s.addCause .forced none
  .done s1 .ok ⟨causeByte s1.causes, bit 8 (!s.inHold), 0, 0⟩

/-- The successful exit: the cause set is emptied and a SafeExit record made (R107). -/
def State.exitHold (s : State) : State :=
  let s1 := { s with causes := 0 }
  s1.record (s1.plainBody .safeExit none 0)

/-- EXIT_SAFE past its confirmation (R105, checks 2 to 5). -/
def exitChecked (args : Quad) (s : State) : ActOut :=
  let set := causeByte s.causes
  let failing := s.exitFailing
  if 64 ≤ args.b0.toNat then refuse s .range ⟨set, failing, 0, 0⟩
  else if s.causes = 0 then .done s .nothing ⟨set, 0, 0, 0⟩
  else if args.b0 ≠ set then refuse s .echoMismatch ⟨set, failing, 0, 0⟩
  else if failing ≠ 0 then refuse s .exitBlocked ⟨set, failing, 0, 0⟩
  else .done s.exitHold .ok ⟨set, 0, 0, 0⟩

/-- EXIT_SAFE (R105), code 11. -/
def actExitSafe (armed : Option Confirmation) (args : Quad) (s : State) : ActOut :=
  ifConfirmed 11 armed args s (exitChecked args)

/-! ### JOURNAL_POP -/

/-- A seq and an occupancy as a payload (R121). -/
def popPayload (seq : Word) (n : Nat) : Quad := ⟨hiByte seq, loByte seq, BitVec.ofNat 8 n, 0⟩

/-- JOURNAL_POP (R121). -/
def actJournalPop (args : Quad) (s : State) : ActOut :=
  match s.journal.queue with
  | [] => .done s .nothing Quad.zero
  | r :: rest =>
    if r.seq = word01 args then
      .done { s with journal := { s.journal with queue := rest } } .ok (popPayload r.seq rest.length)
    else refuse s .seqMismatch (popPayload r.seq s.journal.queue.length)

/-! ### Keepalive supervisor -/

/-- KEEPALIVE's payload: states after and before, expected token after, token carried (R151). -/
def keepalivePayload (before after : Watchdog) (token : Byte) : Quad :=
  ⟨after.st.code, after.token, token, before.st.code⟩

/-- An accepted keepalive: the token rises and CLOSED is entered (Table 9-2). -/
def Watchdog.accepted (w : Watchdog) : Watchdog := { w.enterClosed true with token := w.token + 1 }

/-- A keepalive that lapses the supervisor and raises LNK (Table 9-2, R152). -/
def State.lapseNow (s : State) : State := ({ s with wdg := s.wdg.enterLapsed true } : State).raiseLnk

/-- The state KEEPALIVE leaves and its outcome, by the supervisor's state and token (Table 9-2). -/
def keepaliveStep (token : Byte) (s : State) : State × Verdict :=
  match s.wdg.st with
  | .off => (s, .refused .notArmed)
  | .closed => (s.lapseNow, .refused .early)
  | .opened =>
    if token = s.wdg.token then ({ s with wdg := s.wdg.accepted }, .ok) else (s.lapseNow, .refused .badToken)
  | .lapsed =>
    if token = s.wdg.token then (({ s with wdg := s.wdg.accepted } : State).clearLnk, .ok)
    else (s, .refused .badToken)

/-- KEEPALIVE (R151). -/
def actKeepalive (args : Quad) (s : State) : ActOut :=
  let (s1, v) := keepaliveStep args.b0 s
  .done s1 v (keepalivePayload s.wdg s1.wdg args.b0)

/-- WDG_ARM (R149). -/
def actWdgArm (s : State) : ActOut :=
  match s.wdg.st with
  | .off =>
    let w := { s.wdg.enterClosed true with token := 0 }
    .done { s with wdg := w } .ok ⟨w.st.code, w.token, 0, 0⟩
  | _ => refuse s .alreadyArmed ⟨s.wdg.st.code, s.wdg.token, 0, 0⟩

end Sys2Proof.Machine
end

