-- ==== Sys2Proof/Machine/TripEngine.lean ====
section
/-! DEFINITION. The channel trip engine in phase 3: edges and marks (R11, R12), mark handling (R67-R70), the starvation
check (R71, R72) and the records of both (R74, R75). -/

namespace Sys2Proof.Machine

/-- An edge from a previous level to a level is a mark under a selection (R11, R12). -/
def MarkEdge.isMark (e : MarkEdge) (before now : Bool) : Bool :=
  match e with
  | .rising => !before && now
  | .falling => before && !now
  | .both => before != now

/-- CHk's previous window-mark sample, if one exists since the last reset (R11). -/
def State.prevMark (s : State) (k : Channel) : Option Bool := s.time.wmPrev.map (·.getLsbD k.val)

/-- CHk has a mark in the tick whose samples these are (R11, R12). -/
def State.hasMark (s : State) (k : Channel) (wm : BitVec 4) : Bool :=
  match s.prevMark k with
  | some before => s.staging.actCh[k].edge.isMark before (wm.getLsbD k.val)
  | none => false

/-- A Release record, if the record-releases flag is on (R74). -/
def State.recordRelease (s : State) (k : Channel) (persist : Byte) : State :=
  if s.staging.actCh[k].recordReleases then s.record (s.plainBody (.release persist) none (maskOf k)) else s

/-- An escalation: the entry into LATCHED with its Escalate record (R69, R72, R75). -/
def State.escalate (s : State) (k : Channel) (why : EscReason) : State :=
  let s1 := s.setChan k s.chans[k].latchCause
  s1.record (s1.plainBody (.escalate why) none (maskOf k))

/-- The persist count after one more survived mark reaches a nonzero EC (R69). -/
def State.persistReaches (s : State) (k : Channel) : Bool :=
  let ec := s.staging.actCh[k].ec
  ec != 0 && decide (ec ≤ satInc s.chans[k].persist)

/-- A mark on a channel in CYCLE (R68, R69). -/
def State.markCycle (s : State) (k : Channel) : State :=
  let c := s.chans[k]
  if s.cyclePresent k then
    if s.persistReaches k then (s.setChan k { c with persist := satInc c.persist }).escalate k .persist
    else s.setChan k { c with persist := satInc c.persist, timer := 0 }
  else (s.setChan k { c with st := .normal, persist := 0, timer := 0 }).recordRelease k c.persist

/-- A mark on a channel in CLEARING (R70). -/
def State.markClearing (s : State) (k : Channel) : State :=
  let c := s.chans[k]
  let c1 := if s.cyclePresent k then c.enterCycle else { c with st := .normal }
  (s.setChan k { c1 with ind := .none }).recordRelease k 0

/-- The mark handling of one channel: the pulse ends, then the state acts (R67). -/
def State.markChan (s : State) (k : Channel) : State :=
  let s1 := s.setChan k { s.chans[k] with pulse := false, markSeen := true }
  match s.chans[k].st with
  | .normal => s1
  | .cycle => s1.markCycle k
  | .latched => s1
  | .clearing => s1.markClearing k

/-- The starvation timer advances in this tick (R71). -/
def Chan.starving (c : Chan) : Bool := c.st == .cycle && !c.markSeen && !c.enteredCycle

/-- The timer has reached MT × 16 with MT above 0 (R72). -/
def State.starved (s : State) (k : Channel) : Bool :=
  let mt := s.staging.actCh[k].mt.toNat
  decide (0 < mt) && s.chans[k].st == .cycle && decide (mt * Config.timeoutUnit ≤ s.chans[k].timer.toNat)

/-- The starvation check of one channel (R71, R72). -/
def State.starveChan (s : State) (k : Channel) : State :=
  let c := s.chans[k]
  let s1 := if c.starving then s.setChan k { c with timer := satInc c.timer } else s
  if s1.starved k then s1.escalate k .starved else s1

/-- One channel's turn in phase 3: its mark, if any, and then its starvation check (R13). -/
def State.chanItem (s : State) (k : Channel) (mark : Bool) : State :=
  (if mark then s.markChan k else s).starveChan k

end Sys2Proof.Machine
end

