-- ==== Sys2Proof/Machine/Registers.lean ====
section
/-! DEFINITION. The register map (R177, Table 11-2): which word stands at an address, how each reads, which are writable,
which are locked, and what a write stores. -/

namespace Sys2Proof.Machine

/-- The defined words of Table 11-2. A two-word item takes `second`, a longer one the index of its word. -/
inductive Reg where
  | tstampLo
  | tstampHi
  | clkstat
  | rstcause
  | critstat
  | errcnt
  | spurcnt
  | cancelcnt
  | wdgcfg
  | wdgstat (i : Fin 3)
  | linemode (k : LineNo)
  | lineflt (k : LineNo)
  | linestat (k : LineNo)
  | linecap (k : LineNo)
  | lineact
  | rawin
  | instat (i : Fin 3)
  | pending (second : Bool)
  | slevel (second : Bool)
  | stackview (i : Fin 3)
  | arbcfg
  | shtab (src : Source) (second : Bool)
  | shch (k : Channel) (i : Fin 3)
  | lineglt (j : Fin 8)
  | acttab (src : Source) (second : Bool)
  | actch (k : Channel) (i : Fin 3)
  | commitstat
  | refcrc
  | scrubstat
  | chstat (k : Channel) (second : Bool)
  | safepat
  | outstat (i : Fin 3)
  | safestat (second : Bool)
  | jrnlHead (i : Fin 6)
  | jrnlOcc
  | jrnlNextseq
  | jrnlStat
  | lostcnt
  | evictcnt
  | jrnlCfg
  deriving DecidableEq, Repr

/-! ### Addresses -/

/-- The offset of an address in a region of n words. -/
def offsetIn (base n addr : Nat) : Option (Fin n) :=
  if h : base ≤ addr ∧ addr - base < n then some ⟨addr - base, h.2⟩ else none

/-- Item and "second word" of an offset in a region of two-word items. -/
def pairOf {n : Nat} (i : Fin (2 * n)) : Fin n × Bool :=
  (⟨i.val / 2, Nat.div_lt_of_lt_mul i.isLt⟩, i.val % 2 == 1)

/-- Item and word index of an offset in a region of three-word items. -/
def tripleOf {n : Nat} (i : Fin (3 * n)) : Fin n × Fin 3 :=
  (⟨i.val / 3, Nat.div_lt_of_lt_mul i.isLt⟩, ⟨i.val % 3, Nat.mod_lt _ (by decide)⟩)

/-- The single words and short rows of Table 11-2. -/
def singleAt (addr : Nat) : Option Reg :=
  match addr with
  | 0x00 => some .tstampLo
  | 0x01 => some .tstampHi
  | 0x02 => some .clkstat
  | 0x03 => some .rstcause
  | 0x04 => some .critstat
  | 0x05 => some .errcnt
  | 0x06 => some .spurcnt
  | 0x07 => some .cancelcnt
  | 0x08 => some .wdgcfg
  | 0x50 => some .lineact
  | 0x51 => some .rawin
  | 0x5F => some .arbcfg
  | 0xD8 => some .commitstat
  | 0xD9 => some .refcrc
  | 0xDA => some .scrubstat
  | 0xE8 => some .safepat
  | 0xF6 => some .jrnlOcc
  | 0xF7 => some .jrnlNextseq
  | 0xF8 => some .jrnlStat
  | 0xF9 => some .lostcnt
  | 0xFA => some .evictcnt
  | 0xFB => some .jrnlCfg
  | _ => none

/-- The first answer of a list of answers. -/
def firstSome {α : Type} : List (Option α) → Option α
  | [] => none
  | some x :: _ => some x
  | none :: rest => firstSome rest

/-- The rows of Table 11-2 with more than one word, each asked for an address. -/
def rowsAt (addr : Nat) : List (Option Reg) :=
  [(offsetIn 0x09 3 addr).map .wdgstat,
   (offsetIn 0x10 16 addr).map .linemode,
   (offsetIn 0x20 16 addr).map .lineflt,
   (offsetIn 0x30 16 addr).map .linestat,
   (offsetIn 0x40 16 addr).map .linecap,
   (offsetIn 0x52 3 addr).map .instat,
   (offsetIn 0x58 (2 * 1) addr).map (fun i => .pending (pairOf i).2),
   (offsetIn 0x5A (2 * 1) addr).map (fun i => .slevel (pairOf i).2),
   (offsetIn 0x5C 3 addr).map .stackview,
   (offsetIn 0x60 (2 * 22) addr).map (fun i => .shtab (pairOf i).1 (pairOf i).2),
   (offsetIn 0x8C (3 * 4) addr).map (fun i => .shch (tripleOf i).1 (tripleOf i).2),
   (offsetIn 0x98 8 addr).map .lineglt,
   (offsetIn 0xA0 (2 * 22) addr).map (fun i => .acttab (pairOf i).1 (pairOf i).2),
   (offsetIn 0xCC (3 * 4) addr).map (fun i => .actch (tripleOf i).1 (tripleOf i).2),
   (offsetIn 0xE0 (2 * 4) addr).map (fun i => .chstat (pairOf i).1 (pairOf i).2),
   (offsetIn 0xE9 3 addr).map .outstat,
   (offsetIn 0xEC (2 * 1) addr).map (fun i => .safestat (pairOf i).2),
   (offsetIn 0xF0 6 addr).map .jrnlHead]

/-- The register at a word address; none if Table 11-2 does not list it (R177). -/
def regAt (addr : Nat) : Option Reg := firstSome (singleAt addr :: rowsAt addr)

/-! ### Views -/

/-- A field of a register word: a value placed at a bit. -/
def field {w : Nat} (x : BitVec w) (lsb : Nat) : Word := x.setWidth 16 <<< lsb

/-- A number placed at a bit of a register word. -/
def fieldN (n lsb : Nat) : Word := BitVec.ofNat 16 n <<< lsb

/-- A flag placed at a bit of a register word. -/
def flag (b : Bool) (lsb : Nat) : Word := bit 16 b <<< lsb

/-- CLKSTAT (Table 1-2). -/
def ClockMon.clkstat (c : ClockMon) : Word :=
  fieldN (match c.mon with | .good => 0 | .lost => 1 | .recovering => 2) 14 |||
  flag (c.src == .backup) 13 ||| fieldN c.recovery 0

/-- RSTCAUSE (Table 11-1). -/
def RstCause.word (r : RstCause) : Word :=
  field r.last.code 0 ||| field r.last.causeCode 2 ||| field r.sticky 8

/-- CRITSTAT (Table 9-3). -/
def State.critstat (s : State) : Word :=
  flag s.sup.cond.isActive 0 ||| flag s.wdg.lnk.isSome 1 ||| flag s.scrub.tblCond 2 ||| flag s.clk.cond 3

/-- WDGSTAT (Table 9-3); the timer and the length read 0 in OFF (R155). -/
def Watchdog.stat (w : Watchdog) (i : Fin 3) : Word :=
  let running := w.st != .off
  if i = 0 then field w.st.code 14 ||| field w.token 0
  else if i = 1 then (if running then fieldN (w.timer / 16) 0 else 0)
  else
    (if running then field w.length 8 else 0) |||
    (match w.lnk with
     | some x => flag true 7 ||| field x.cls.code 4 ||| field x.mask 0
     | none => 0)

/-- The code of a conditioner's state (R35). -/
def Cond.code : Cond → Nat
  | .idle => 0
  | .qualifying _ _ => 1
  | .asserted => 2
  | .releasing _ _ => 3

/-- The filter count of a conditioner; 0 in IDLE and ASSERTED (R21, R23). -/
def Cond.count : Cond → Byte
  | .idle => 0
  | .qualifying n _ => n
  | .asserted => 0
  | .releasing n _ => n

/-- State and filter count in the conditioner status format (Table 2-5). -/
def Cond.stat (c : Cond) : Word := fieldN c.code 8 ||| field c.count 0

/-- The contribution format (R35). -/
def contribWord : Option Contribution → Word
  | none => 0
  | some x => flag true 15 ||| field x.cls.code 8 ||| fieldN x.level.val 4 ||| field x.mask 0

/-- LINEMODE (R18). -/
def LineCfg.mode (c : LineCfg) : Word := flag c.enable 0 ||| flag c.activeLow 1 ||| flag c.recordClear 2

/-- The numbers of the lines. -/
def allLines : List LineNo := [0, 1, 2, 3, 4, 5, 6, 7, 8, 9, 10, 11, 12, 13, 14, 15]

/-- LINEACT: one bit per line that is ASSERTED or RELEASING. -/
def State.lineact (s : State) : Word :=
  allLines.foldl (fun w k => w ||| flag s.lines[k].cond.isActive k.val) 0

/-- INSTAT (Table 2-5). -/
def State.instat (s : State) (i : Fin 3) : Word :=
  if i = 0 then flag s.time.supLow 15 ||| s.sup.cond.stat
  else if i = 1 then contribWord s.sup.contrib
  else flag s.time.safeInPin 15 ||| s.safeIn.stat

/-- PENDING (Table 8-2). -/
def State.pendingView (s : State) (second : Bool) : Word :=
  if second then
    ([16, 17, 18, 19, 20, 21] : List Source).foldl (fun w k => w ||| flag (s.isPending k) (k.val - 16)) 0 |||
    (match s.winner with
     | some k => fieldN k.val 8 ||| flag true 15
     | none => fieldN 31 8)
  else
    allLines.foldl (fun w k => w ||| flag (s.isPending (lineSrc k)) k.val) 0

/-- SLEVEL (Table 8-2). -/
def Arbiter.slevel (a : Arbiter) (second : Bool) : Word :=
  if second then a.hd else fieldN a.sl.val 0 ||| flag a.nestOff 14 ||| flag (a.hd != 0) 15

/-- STACKVIEW (Table 8-2). -/
def Arbiter.stackview (a : Arbiter) (i : Fin 3) : Word :=
  match a.stack with
  | [] => if i = 0 then fieldN 31 8 else 0
  | e :: _ =>
    if i = 0 then fieldN a.stack.length 0 ||| fieldN e.source.val 8 ||| flag e.firstSeq.isSome 15
    else if i = 1 then fieldN e.savedSL.val 0
    else e.firstSeq.getD 0

/-- COMMITSTAT (Table 3-5). -/
def Staging.commitstat (g : Staging) : Word :=
  flag g.tableValid 15 ||| flag g.locked 14 |||
  (match g.armedTable with
   | some k => fieldN k.val 5 ||| flag true 4
   | none => 0) ||| field g.armedCh 0

/-- SCRUBSTAT (Table 3-5). -/
def State.scrubstat (s : State) : Word :=
  flag s.staging.tableValid 15 ||| flag s.scrub.tblCond 14 ||| fieldN s.scrub.position.val 8 ||| fieldN s.scrub.pacing.val 0

/-- CHSTAT (Table 4-3). -/
def State.chstat (s : State) (k : Channel) (second : Bool) : Word :=
  let c := s.chans[k]
  if second then fieldN (min (c.timer.toNat / 16) 65535) 0
  else
    fieldN (match c.st with | .normal => 0 | .cycle => 1 | .latched => 2 | .clearing => 3) 14 |||
    fieldN (match c.ind with | .none => 0 | .pending => 1 | .cancelled => 2) 12 |||
    flag c.pulse 11 ||| flag (s.cyclePresent k) 10 ||| flag (s.latchPresent k) 9 ||| field c.persist 0

/-- The number of a layer (Table 5-1). -/
def Layer.number : Layer → Nat
  | .safe => 1
  | .latch => 2
  | .cycle => 3
  | .override => 4
  | .pwm => 5

/-- OUTSTAT (Table 5-3); under layer 5 the level is the PWM pin's at this moment (R96). -/
def State.outstat (s : State) (i : Fin 3) : Word :=
  let n := fun j : Fin 8 => s.outs.layers[j].number
  if i = 0 then flag s.outs.nSafe 8 ||| field (byteOfLevels s.outLevel) 0
  else if i = 1 then fieldN (n 5) 12 ||| fieldN (n 1) 8 ||| fieldN (n 4) 4 ||| fieldN (n 0) 0
  else fieldN (n 7) 12 ||| fieldN (n 3) 8 ||| fieldN (n 6) 4 ||| fieldN (n 2) 0

/-- SAFESTAT (Table 6-4). -/
def State.safestat (s : State) (second : Bool) : Word :=
  if second then field s.exitFailing 0 else flag s.inHold 15 ||| field s.causes 0

/-- The kind code of a record (Table 7-4). -/
def RecKind.code : RecKind → Nat
  | .assert _ _ => 1
  | .clear _ => 2
  | .release _ => 3
  | .escalate _ => 4
  | .safeEntry _ _ => 5
  | .safeExit => 6
  | .commitApplied _ => 7
  | .resetMark _ => 8

/-- The code of a FORCE_TRIP kind: 1 Cycle, 2 Latch (R82). -/
def TripKind.code : TripKind → Nat
  | .cycle => 1
  | .latch => 2

/-- The code of a scope: 0 TABLE, 1-4 CHANNEL 0-3 (Table 10-5). -/
def scopeCode : Scope → Nat
  | .table => 0
  | .channel k => k.val + 1

/-- The detail word of a record (Table 7-5). -/
def RecKind.detail : RecKind → Word
  | .assert level kind => fieldN level.val 0 ||| (match kind with | some t => fieldN t.code 8 | none => 0)
  | .clear disabled => flag disabled 0
  | .release persist => field persist 0
  | .escalate why => flag (why == .starved) 0
  | .safeEntry cause first => field cause.bits 0 ||| flag first 15
  | .safeExit => 0
  | .commitApplied scope => fieldN (scopeCode scope) 0
  | .resetMark kind => field kind.code 0 ||| field kind.causeCode 4

/-- A record in the format of Table 7-4. -/
def Rec.word (r : Rec) (i : Fin 6) : Word :=
  let b := r.body
  match i with
  | 0 => r.seq
  | 1 =>
    fieldN b.kind.code 12 ||| flag b.isProtected 11 |||
    fieldN (match b.source with | some src => src.val | none => 31) 6 |||
    (match b.cls with | some c => flag true 5 ||| field c.code 3 | none => 0)
  | 2 => field r.lost 8 ||| field b.channels 0
  | 3 => b.stamp.extractLsb' 16 16
  | 4 => b.stamp.extractLsb' 0 16
  | 5 => b.kind.detail

/-- JRNL_HEAD: the head record, or zeros when the queue is empty (R120). -/
def Journal.head (j : Journal) (i : Fin 6) : Word :=
  match j.queue with
  | [] => 0
  | r :: _ => r.word i

/-- The content of a register word, as its owning chapter gives it (R177). -/
def Reg.read (r : Reg) (s : State) : Word :=
  match r with
  | .tstampLo => s.time.tstamp.extractLsb' 0 16
  | .tstampHi => s.time.hold
  | .clkstat => s.clk.clkstat
  | .rstcause => s.rstcause.word
  | .critstat => s.critstat
  | .errcnt => s.counters.err
  | .spurcnt => s.counters.spur
  | .cancelcnt => s.counters.cancel
  | .wdgcfg => wordOf s.wdg.cw s.wdg.ow
  | .wdgstat i => s.wdg.stat i
  | .linemode k => s.lines[k].cfg.mode
  | .lineflt k => wordOf s.lines[k].cfg.af s.lines[k].cfg.rf
  | .linestat k => s.lines[k].cond.stat
  | .linecap k => contribWord s.lines[k].contrib
  | .lineact => s.lineact
  | .rawin => s.time.rawin
  | .instat i => s.instat i
  | .pending second => s.pendingView second
  | .slevel second => s.arb.slevel second
  | .stackview i => s.arb.stackview i
  | .arbcfg => flag s.arb.nestOff 0
  | .shtab src second => if second then s.staging.shTab[src].word1 else s.staging.shTab[src].word0
  | .shch k i => s.staging.shCh[k].wordAt i
  | .lineglt j =>
    wordOf s.lines[2 * j.val].glitch s.lines[2 * j.val + 1].glitch
  | .acttab src second => if second then s.staging.actTab[src].word1 else s.staging.actTab[src].word0
  | .actch k i => s.staging.actCh[k].wordAt i
  | .commitstat => s.staging.commitstat
  | .refcrc => s.scrub.ref
  | .scrubstat => s.scrubstat
  | .chstat k second => s.chstat k second
  | .safepat => field s.safepat 0
  | .outstat i => s.outstat i
  | .safestat second => s.safestat second
  | .jrnlHead i => s.journal.head i
  | .jrnlOcc => fieldN s.journal.queue.length 0
  | .jrnlNextseq => s.journal.nextSeq
  | .jrnlStat => flag s.journal.protOverflow 15 ||| field s.journal.lost 0
  | .lostcnt => s.journal.lostCnt
  | .evictcnt => s.journal.evictCnt
  | .jrnlCfg => fieldN s.journal.jt.val 0

/-! ### Writing -/

/-- The register is read/write (Table 11-2). -/
def Reg.writable : Reg → Bool
  | .wdgcfg => true
  | .linemode _ => true
  | .lineflt _ => true
  | .arbcfg => true
  | .shtab _ _ => true
  | .shch _ _ => true
  | .safepat => true
  | .jrnlCfg => true
  | _ => false

/-- The register is in the locked set (R57): every writable register but JRNL_CFG. -/
def Reg.lockable (r : Reg) : Bool := r.writable && r != .jrnlCfg

/-- The scope whose shadow holds the register (R41). -/
def Reg.scope : Reg → Option Scope
  | .shtab _ _ => some .table
  | .shch k _ => some (.channel k)
  | _ => none

/-- A word that its shadow channel block refuses with Range (R40, R41). -/
def Reg.rangeBad (r : Reg) (w : Word) : Bool :=
  match r with
  | .shch _ i => i == 0 && badChanWord w
  | _ => false

/-- The store of one word by a WRITE that has passed every check (R162), with the effect of its owning chapter. A read-only
word is never stored. -/
def Reg.store (r : Reg) (w : Word) (s : State) : State :=
  match r with
  | .wdgcfg => { s with wdg := { s.wdg with cw := hiByte w, ow := loByte w } }
  | .linemode k => s.writeLineMode k w
  | .lineflt k => s.writeLineFlt k w
  | .arbcfg => { s with arb := { s.arb with nestOff := w.getLsbD 0 } }
  | .shtab src second =>
    let e := s.staging.shTab[src]
    let e1 := if second then e.setWord1 w else e.setWord0 w
    { s with staging := { s.staging with shTab := s.staging.shTab.set src.val e1 src.isLt } }
  | .shch k i =>
    { s with staging := { s.staging with
        shCh := s.staging.shCh.set k.val (s.staging.shCh[k].setWord i w) k.isLt } }
  | .safepat => { s with safepat := loByte w }
  | .jrnlCfg => { s with journal := { s.journal with jt := if h : w.toNat < 33 then ⟨w.toNat, h⟩ else s.journal.jt } }
  | _ => s

end Sys2Proof.Machine
end

