-- ==== Sys2Proof/Machine/Service.lean ====
section
/-! DEFINITION. The phase 1 steps of the arbiter's actions: ACCEPT, DONE, SET_LEVEL, HOLDOFF and CANCEL (R135-R140). -/

namespace Sys2Proof.Machine

/-- The payload of a hand-over (R135), which CANCEL shares (R140). -/
def handOverPayload (src : Source) (p : Pend) : Quad :=
  let seq := p.firstSeq.getD 0
  ⟨sourceByte src ||| (if p.firstSeq.isSome then 0x80 else 0), p.count, hiByte seq, loByte seq⟩

/-- SL after a hand-over at a level: under NEST_OFF a user level raises it to 7 (R135). -/
def handOverLevel (nestOff : Bool) (level : Level) : Level :=
  if nestOff ∧ level.val ≤ 7 then 7 else level

/-- The hand-over of the winner (R135, step 3). -/
def State.handOver (s : State) (src : Source) (p : Pend) : State :=
  { s with arb := { s.arb with
      pend := s.arb.pend.set src.val none src.isLt
      sl := handOverLevel s.arb.nestOff (s.effLevel src)
      stack := ⟨s.arb.sl, src, p.firstSeq⟩ :: s.arb.stack } }

/-- One spurious accept more on SPURCNT (R142). -/
def State.countSpurious (s : State) : State :=
  { s with counters := { s.counters with spur := satInc s.counters.spur } }

/-- ACCEPT (R135). -/
def actAccept (s : State) : ActOut :=
  match s.winner with
  | none => .done s.countSpurious .nothing Quad.zero
  | some src =>
    match s.arb.pend[src] with
    | none => .done s.countSpurious .nothing Quad.zero
    | some p =>
      if s.arb.stack.length < Config.stackSlots then .done (s.handOver src p) .ok (handOverPayload src p)
      else refuse s .stackFull ⟨sourceByte src, p.count, 0, 0⟩

/-- The payload of DONE: a source byte, SL and the depth (R136). -/
def donePayload (s : State) (src : Byte) : Quad :=
  ⟨src, levelByte s.arb.sl, BitVec.ofNat 8 s.arb.stack.length, 0⟩

/-- DONE (R136). -/
def actDone (args : Quad) (s : State) : ActOut :=
  match sourceArg args.b0 with
  | none => refuse s .range Quad.zero
  | some src =>
    match s.arb.stack with
    | [] => .done s .stackEmpty (donePayload s 31)
    | e :: rest =>
      if e.source = src then
        let s1 := { s with arb := { s.arb with sl := e.savedSL, stack := rest } }
        .done s1 .ok (donePayload s1 (sourceByte src))
      else refuse s .wrongSource (donePayload s (sourceByte e.source))

/-- The payload of SET_LEVEL: SL after and before, depth, NEST_OFF (R137). -/
def setLevelPayload (after before : Level) (s : State) : Quad :=
  ⟨levelByte after, levelByte before, BitVec.ofNat 8 s.arb.stack.length, bit 8 s.arb.nestOff⟩

/-- SET_LEVEL (R137). -/
def actSetLevel (args : Quad) (s : State) : ActOut :=
  let sl := s.arb.sl
  match levelArg args.b0 with
  | none => refuse s .range (setLevelPayload sl sl s)
  | some n =>
    if 8 ≤ sl.val ∨ (s.arb.nestOff = true ∧ s.arb.stack ≠ []) then refuse s .levelLocked (setLevelPayload sl sl s)
    else .done { s with arb := { s.arb with sl := n } } .ok (setLevelPayload n sl s)

/-- HD after a HOLDOFF with value n (R138). -/
def holdoffAfter (hd n : Word) : Word := if n = 0 then 0 else if hd < n then n else hd

/-- HOLDOFF (R138). -/
def actHoldoff (args : Quad) (s : State) : ActOut :=
  let hd := holdoffAfter s.arb.hd (word01 args)
  .done { s with arb := { s.arb with hd := hd } } .ok ⟨hiByte hd, loByte hd, 0, 0⟩

/-- CANCEL (R140). -/
def actCancel (args : Quad) (s : State) : ActOut :=
  match sourceArg args.b0 with
  | none => refuse s .range Quad.zero
  | some src =>
    match s.arb.pend[src] with
    | none => .done s .nothing ⟨sourceByte src, 0, 0, 0⟩
    | some p =>
      let s1 := s.setPend src none
      .done { s1 with counters := { s1.counters with cancel := satInc s1.counters.cancel } } .ok (handOverPayload src p)

end Sys2Proof.Machine
end

