-- ==== Sys2Proof/Machine/Link.lean ====
section
/-! DEFINITION. What the host link holds and what a judged transaction does (chapter Host Link Protocol): the bytes of the
device stream (R158), READ and its snapshot (R4, R6, R161), WRITE (R162), actions with replay and confirmation (R164-R166),
and phase 1, which takes the transactions that waited (R3). -/

namespace Sys2Proof.Machine

/-! ### The device stream -/

/-- The data bytes of a READ with their CRC-8 (R161). -/
def dataBytes (words : List Word) : List Byte := bytesOf words ++ [crc8 (bytesOf words)]

/-- Bytes 0-7 of a stream: status byte, result record, CRC-8 (Table 10-2). -/
def headBytes (status : Byte) (r : ResultRec) : List Byte :=
  let head := [status, r.kind ++ r.tag, r.outcome, r.payload.b0, r.payload.b1, r.payload.b2, r.payload.b3]
  head ++ [crc8 head]

/-- The stream of a transaction as far as it is known: bytes 0-7, then a READ's data if its snapshot has been taken; every
byte after it is 0x00 (Table 10-2). -/
def Flight.stream (q : Flight) : List Byte :=
  headBytes q.status q.record ++ (match q.words with | some ws => dataBytes ws | none => [])

/-- The byte that goes out next: 0x00 once a reset has abandoned the transaction (R158, R168). -/
def Flight.nextOut (q : Flight) : Byte := if q.dead then 0 else q.stream.getD q.sent.length 0

/-- The transaction that begins with the fall of nCS: the status byte is captured (R158, R159). -/
def State.newFlight (s : State) : Flight := ⟨[], s.statusByte, s.link.result, true, [], none, false⟩

/-- One byte clocked both ways. The end of byte 0 captures the result record stored most recently (R158); the end of byte 7
clears RESULT_NEW if the captured record is still the most recent one (R159). -/
def State.clockByte (s : State) (b : Byte) : State :=
  match s.link.flight with
  | none => s
  | some q =>
    let out := { q with host := q.host ++ [b], sent := q.sent ++ [q.nextOut] }
    if q.sent = [] then
      { s with link := { s.link with flight := some { out with record := s.link.result, current := true } } }
    else
      { s with link := { s.link with
          flight := some out
          resultNew := s.link.resultNew && !(q.sent.length == 7 && q.current && !q.dead) } }

/-! ### READ -/

/-- The lowest address of a range that Table 11-2 does not define (R161). -/
def lowestUndefined : List Nat → Option Nat
  | [] => none
  | a :: rest => if (regAt a).isNone then some a else lowestUndefined rest

/-- The count and address checks that READ and WRITE share: the outcome of the first that fails (R161, R162). Payload
bytes 2 and 3 of BadAddress are not stated and are 0 (DEDUCED, log entry 25). -/
def rangeCheck (start count : Byte) : Option (Verdict × Quad) :=
  if count.toNat = 0 ∨ 16 < count.toNat then some (.badKind, Quad.zero)
  else
    match lowestUndefined (addresses start count) with
    | some a => some (.badAddress, ⟨BitVec.ofNat 8 a, count, 0, 0⟩)
    | none => none

/-- The registers of a range, ascending. -/
def regsOf (start count : Byte) : List Reg := (addresses start count).filterMap regAt

/-- The TSTAMP capture, if a snapshot at this boundary includes TSTAMP_LO (R6). -/
def State.captureHold (s : State) (includesLo : Bool) : State :=
  { s with time := { s.time with hold := if includesLo then s.time.tstamp.extractLsb' 16 16 else s.time.hold } }

/-- The words of a range as they stand. -/
def State.readWords (s : State) (start count : Byte) : List Word := (regsOf start count).map fun r => r.read s

/-- The READ in flight whose snapshot the next tick boundary takes: its CRC byte has come and stream byte 8 has not begun, its
count and addresses pass, no reset has abandoned it and no earlier boundary has given it one (R4, R161; log entry 13). -/
def Flight.due (q : Flight) : Bool :=
  headerKind q.host == 1 && decide (4 ≤ q.host.length ∧ q.host.length < 8) && !q.dead && q.words.isNone &&
  (rangeCheck (q.host.getD 1 0) (q.host.getD 2 0)).isNone

/-- A transaction that includes TSTAMP_LO and whose snapshot the next tick boundary takes (R4, R6). -/
def Flight.owes (q : Flight) : Bool := q.due && decide (Reg.tstampLo ∈ regsOf (q.host.getD 1 0) (q.host.getD 2 0))

/-- A boundary has fallen in time for a READ's snapshot, or the next one does: none falls between, and a reset that comes
first discards the READ's result too (R3, R4). -/
def Flight.snapped (q : Flight) : Bool := q.words.isSome || q.due

/-- A tick boundary: the READ in flight, if one is due, takes its snapshot; the TSTAMP captures of that READ and of
READs that have ended since the last boundary come first (R4, R6). That the snapshot of a READ of TSTAMP_HI alone shows
the capture that an ended READ of TSTAMP_LO makes at the same boundary is DEDUCED (log entry 28: unsafe). -/
def State.snapshot (s : State) : State :=
  let s1 := s.captureHold (s.link.owed || s.link.flight.any Flight.owes)
  { s1 with link := { s1.link with
      owed := false
      flight := s1.link.flight.map fun q =>
        if q.due then { q with words := some (s1.readWords (q.host.getD 1 0) (q.host.getD 2 0)) } else q } }

/-- The outcome and payload of a READ (R161). Byte 2 is 0 also where the boundary that falls in time comes after the
rise of nCS (DEDUCED, log entry 27: unsafe). -/
def readResult (start count : Byte) (snapped : Bool) : Verdict × Quad :=
  match rangeCheck start count with
  | some r => r
  | none => (.ok, ⟨start, count, bit 8 (!snapped), 0⟩)

/-! ### WRITE -/

/-- The words of a WRITE with their registers, ascending; a frame judged good carries a data word
for each (R156). -/
def writeWords (start count : Byte) (data : List Word) : List (Nat × Reg × Word) :=
  (List.range count.toNat).filterMap fun i =>
    (regAt (start.toNat + i)).map fun r => (start.toNat + i, r, data.getD i 0)

/-- The mark channel of the armed commit whose scope holds a register's shadow (R41). -/
def State.busyMark (s : State) (r : Reg) : Option Channel :=
  match r.scope with
  | some scope => s.staging.armed scope
  | none => none

/-- ShadowBusy of R41, with the lowest busy address and its mark channel (R162). Payload bytes 2 and 3 are not stated
and are 0 (DEDUCED, log entry 25). -/
def State.shadowBusy (s : State) : List (Nat × Reg × Word) → Option (Verdict × Quad)
  | [] => none
  | (a, r, _) :: rest =>
    match s.busyMark r with
    | some m => some (.shadowBusy, ⟨BitVec.ofNat 8 a, channelByte m, 0, 0⟩)
    | none => s.shadowBusy rest

/-- ReadOnly, with the lowest read-only address (R162). Payload bytes 1 to 3 are not stated and are 0 (DEDUCED, log
entry 25). -/
def readOnlyHit : List (Nat × Reg × Word) → Option (Verdict × Quad)
  | [] => none
  | (a, r, _) :: rest =>
    if r.writable then readOnlyHit rest else some (.readOnly, ⟨BitVec.ofNat 8 a, 0, 0, 0⟩)

/-- One check of a WRITE: an outcome with an all-zero payload if the test holds. -/
def failIf (test : Bool) (v : Verdict) : Option (Verdict × Quad) := if test then some (v, Quad.zero) else none

/-- The checks of a WRITE in the order of R162: the first that fails, or none. JT is judged on its whole word (DEDUCED, log
entry 21: unsafe). -/
def State.writeCheck (s : State) (start count : Byte) (data : List Word) : Option (Verdict × Quad) :=
  match rangeCheck start count with
  | some r => some r
  | none =>
    let ws := writeWords start count data
    firstSome
      [readOnlyHit ws,
       failIf (s.staging.locked && ws.any fun x => x.2.1.lockable) .locked,
       s.shadowBusy ws,
       failIf (ws.any fun x => x.2.1.rangeBad x.2.2) (.refused .range),
       failIf (s.inHold && ws.any fun x => x.2.1 == .safepat) (.refused .inSafe),
       failIf (!s.arb.stack.isEmpty && ws.any fun x => x.2.1 == .arbcfg) (.refused .stackBusy),
       failIf (ws.any fun x => x.2.1 == .wdgcfg && loByte x.2.2 == 0) (.refused .range),
       failIf (ws.any fun x => x.2.1 == .jrnlCfg && decide (32 < x.2.2.toNat)) (.refused .range)]

/-- A WRITE that has passed every check stores every word, in ascending address order (R162). -/
def State.storeWords (s : State) (ws : List (Nat × Reg × Word)) : State :=
  ws.foldl (fun s x => x.2.1.store x.2.2 s) s

/-! ### Actions -/

/-- The phase 1 step of an action code (Table 10-5); a code of 0 or above 21 is BadKind (R166). -/
def actByCode (code : Byte) (armed : Option Confirmation) (args : Quad) (s : State) : ActOut :=
  match code.toNat with
  | 1 => actAccept s
  | 2 => actDone args s
  | 3 => actSetLevel args s
  | 4 => actHoldoff args s
  | 5 => actCancel args s
  | 6 => actCommit args s
  | 7 => actAbortCommit args s
  | 8 => actClearLatch args s
  | 9 => actForceTrip args s
  | 10 => actForceSafe s
  | 11 => actExitSafe armed args s
  | 12 => actJournalPop args s
  | 13 => actKeepalive args s
  | 14 => actWdgArm s
  | 15 => actLock s
  | 16 => actUnlock armed args s
  | 17 => actConfirm args s
  | 18 => actResetDevice armed args s
  | 19 => actSelftest armed args s
  | 20 => actClearCounters s
  | 21 => actClearCause s
  | _ => .done s .badKind Quad.zero

/-- The remembered ACTION of which a new one is a replay, if it is one (R164). -/
def Link.replayOf (l : Link) (tag : BitVec 6) (code : Byte) (args : Quad) : Option Replay :=
  match l.replay with
  | some r => if l.chain = true ∧ tag ≠ 0 ∧ r.tag = tag ∧ r.code = code ∧ r.args = args then some r else none
  | none => none

/-- The armed confirmation ended (R165). -/
def State.endConfirm (s : State) : State := { s with link := { s.link with confirm := none } }

/-- The replay chain broken by a READ or WRITE (R164). -/
def State.breakChain (s : State) : State := { s with link := { s.link with chain := false } }

/-- An executed ACTION becomes the content of the replay memory, and its result is stored (R164, R160). -/
def State.finishAction (s : State) (tag : BitVec 6) (code : Byte) (args : Quad) (v : Verdict) (p : Quad) : State :=
  ({ s with link := { s.link with replay := some ⟨tag, code, args, v.byte, p⟩, chain := true } } : State).storeResult
    3 tag v.byte p

/-- An ACTION's answer settled: its result stored, or the tick abandoned by the reset it performed. -/
def ActOut.settle (o : ActOut) (tag : BitVec 6) (code : Byte) (args : Quad) : Progress :=
  match o with
  | .done s v p => .goes (s.finishAction tag code args v p)
  | .reset s => .abandoned s

/-- An ACTION taken in phase 1 (R164-R166). -/
def State.applyAction (s : State) (tag : BitVec 6) (code : Byte) (args : Quad) : Progress :=
  match s.link.replayOf tag code args with
  | some r => .goes (s.endConfirm.storeResult 3 tag (replayedByte r.outcome) r.payload)
  | none => (actByCode code s.link.confirm args s.endConfirm).settle tag code args

/-- A WRITE taken in phase 1 (R162). Payload bytes 2 and 3 of its OK are not stated and are 0 (DEDUCED, log entry 25). -/
def State.applyWrite (s : State) (tag : BitVec 6) (start count : Byte) (data : List Word) : State :=
  let s0 := s.endConfirm.breakChain
  match s0.writeCheck start count data with
  | some (v, p) => s0.storeResult 2 tag v.byte p
  | none => (s0.storeWords (writeWords start count data)).storeResult 2 tag Verdict.ok.byte ⟨start, count, 0, 0⟩

/-- A READ's result stored in phase 1 (R161). -/
def State.applyRead (s : State) (tag : BitVec 6) (start count : Byte) (snapped : Bool) : State :=
  let (v, p) := readResult start count snapped
  s.endConfirm.breakChain.storeResult 1 tag v.byte p

/-- One link error more on ERRCNT (R175). -/
def State.countError (s : State) : State :=
  { s with counters := { s.counters with err := satInc s.counters.err } }

/-- A link error counted and its result stored in phase 1 (R157). -/
def State.applyBad (s : State) (kind : BitVec 2) (tag : BitVec 6) (short : Bool) (p : Quad) : State :=
  s.countError.storeResult kind tag (if short then Verdict.frameShort else Verdict.frameCrc).byte p

/-- A judged transaction taken in phase 1 (R3). -/
def State.applyJudged (s : State) : Judged → Progress
  | .action tag code args => s.applyAction tag code args
  | .write tag start count data => .goes (s.applyWrite tag start count data)
  | .read tag start count snapped => .goes (s.applyRead tag start count snapped)
  | .bad kind tag short p => .goes (s.applyBad kind tag short p)

/-! ### Phase 1 -/

/-- The transactions that waited are taken one after the other; a reset discards those behind it (R3, R15). -/
def applyAll : List Judged → State → Progress
  | [], s => .goes s
  | j :: rest, s => (s.applyJudged j).bind (applyAll rest)

end Sys2Proof.Machine
end

