-- ==== Sys2Proof/Machine/Tick.lean ====
section
/-! DEFINITION. The tick (R13): its beginning with the samples and phase 1, the items of phases 2 to 5 in their one order
(R14), its end; a tick in progress finished; an event taken at its item; and the POR and PIN resets with their release (R169,
R170, R173). -/

namespace Sys2Proof.Machine

/-! ### Items -/

/-- A commit of a scope armed to channel k applies in phase 4 if channel k has had its mark in this tick (R13, R47). -/
def State.commitItem (s : State) (scope : Scope) (k : Channel) : State :=
  if s.chans[k].markSeen ∧ s.staging.armed scope = some k then s.applyArmed scope else s

/-- Phase 5's holdoff decrement (R138). -/
def State.holdoffDown (s : State) : State :=
  { s with arb := { s.arb with hd := if s.arb.hd = 0 then 0 else s.arb.hd - 1 } }

/-- The window-mark samples become the previous ones, on all four pins (R11). -/
def State.keepMarks (s : State) (wm : BitVec 4) : State := { s with time := { s.time with wmPrev := some wm } }

/-- One item of a tick, on the tick's samples (R13, R14). -/
def State.runItem (s : State) (inp : Samples) : Item → Progress
  | .line k => .goes (s.lineItem k (inp.fin.getLsbD k.val))
  | .sup => .goes (s.supItem inp.supLow)
  | .safeIn => .goes (s.safeInItem inp.safeIn)
  | .wdg => s.wdgItem
  | .scrub => s.scrubItem
  | .clk => s.clkItem
  | .chan k => .goes (s.chanItem k (s.hasMark k inp.wm))
  | .keepMarks => .goes (s.keepMarks inp.wm)
  | .commitTable k => .goes (s.commitItem .table k)
  | .commitChannel k => .goes (s.commitItem (.channel k) k)
  | .outputs => .goes s.recomputeOutputs
  | .irq => .goes (s.recomputeIrq (s.arb.hd != 0))
  | .holdoff => .goes s.holdoffDown

/-- The items of phase 2: FIN0 to FIN15, SUP, SAFE_IN, the keepalive supervisor, the scrubber, the clock monitor (R14). -/
def phase2Items : List Item := allLines.map .line ++ [.sup, .safeIn, .wdg, .scrub, .clk]

/-- The items of phase 3: the channels in order; then the samples are stored (R11, R13). -/
def phase3Items : List Item := allChannels.map .chan ++ [.keepMarks]

/-- The items of phase 4: the marks in channel order, TABLE before CHANNEL at each (R13, R47). -/
def phase4Items : List Item := allChannels.flatMap fun k => [.commitTable k, .commitChannel k]

/-- The items of phase 5: outputs and nSAFE, then nIRQ, then the holdoff decrement (R13). -/
def phase5Items : List Item := [.outputs, .irq, .holdoff]

/-- The items of a tick after phase 1, in their one order (R13, R14). -/
def tickItems : List Item := phase2Items ++ phase3Items ++ phase4Items ++ phase5Items

/-- Items run one after the other; a reset abandons those behind it (R14, R15). -/
def runItems (inp : Samples) : List Item → State → Progress
  | [], s => .goes s
  | i :: rest, s => (s.runItem inp i).bind (runItems inp rest)

/-! ### The beginning and the end of a tick -/

/-- A tick begins (R13): the boundary gives a READ its snapshot (R4), the clock monitor's period passes (R1, R7), TSTAMP rises
by one (R5), and the input pins are sampled, once (R2). -/
def State.beginTick (s : State) (inp : Samples) : State :=
  let s1 := s.snapshot
  { s1 with
    clk := s1.clk.period
    time := { s1.time with tstamp := s1.time.tstamp + 1, supLow := inp.supLow, safeInPin := inp.safeIn }
    pins := { s1.pins with inputs := inp }
    tick := some ⟨inp, tickItems⟩ }

/-- The queue of the transactions that wait, emptied. -/
def State.noWaiting (s : State) : State := { s with link := { s.link with waiting := [] } }

/-- A tick begins, and phase 1 takes every transaction that waited (R3). -/
def State.openTick (s : State) (inp : Samples) : Progress := applyAll s.link.waiting (s.beginTick inp).noWaiting

/-- The end of a tick, after which none is in progress: the indications that hold nothing beyond it are cleared (R60), RAWIN shows its samples (section 2.7),
the clock source returns to REF if the clear of R10 was handled in it (DEDUCED, log entries 9 and 12). -/
def State.endTick (s : State) (inp : Samples) : State :=
  { s with
    time := { s.time with rawin := inp.fin }
    clk := s.clk.endTick
    tick := none
    chans := Vector.ofFn fun k : Channel => { s.chans[k] with markSeen := false, enteredCycle := false } }

/-- The tick in progress runs to its end, or to the reset that abandons it (R13, R15). -/
def State.settle (s : State) : State :=
  match s.tick with
  | none => s
  | some t => ((runItems t.inp t.left s).bind fun s1 => .goes (s1.endTick t.inp)).st

/-- A whole tick, after the one in progress. While a POR or PIN lasts no tick runs (R170). -/
def State.wholeTick (s : State) (inp : Samples) : State :=
  if s.inReset then s else (s.settle.openTick inp).st.settle

/-- What happens while nCS is low. -/
def State.mid (s : State) : MidEvent → State
  | .tick inp => s.wholeTick inp
  | .clock e => s.clockEvent e

/-! ### Events at their items -/

/-- The items before an item run; the state then holds the item at the front of what is left of the tick. None if the item has
been run or a reset comes first. -/
def runTo (i : Item) (inp : Samples) : List Item → State → Option State
  | [], _ => none
  | j :: rest, s =>
    if j = i then some { s with tick := some ⟨inp, j :: rest⟩ }
    else
      match s.runItem inp j with
      | .goes s1 => runTo i inp rest s1
      | .abandoned _ => none

/-- A tick in which an event may fall: the next one, begun when the tick in progress has ended, with its phase 1 done; or the
tick in progress. -/
def State.tickFor (s : State) : Option Samples → State
  | some inp => (s.settle.openTick inp).st
  | none => s

/-- The state that an item of a tick finds, every earlier item of that tick run (R13, R14). The item may depend on the state
after phase 1, by which mark a commit is armed to. -/
def State.reach (s : State) (w : Option Samples) (i : State → Item) : Option State :=
  let s1 := s.tickFor w
  match s1.tick with
  | some t => runTo (i s1) t.inp t.left s1
  | none => none

/-- What is left of the tick in progress without its first item. -/
def State.past (s : State) : State := { s with tick := s.tick.map fun t => { t with left := t.left.tail } }

/-- The item at the front of what is left of the tick runs. -/
def State.runNext (s : State) : State :=
  match s.tick with
  | some ⟨inp, i :: _⟩ => (s.past.runItem inp i).st
  | _ => s

/-- An event of an item of a tick: its item, which may depend on the state that phase 1 leaves; what it is on its own input pin,
given that state and the levels of the other pins; and whether it is due, by the tick's samples and the state its item
finds. -/
structure Event where
  item  : State → Item
  drive : State → Samples → Samples
  due   : Samples → State → Bool

/-- The levels with which the next tick begins for an event: the standing ones, with its own pin as the event has it (DESIGN
CHOICE, log entry 23: unsafe). -/
def State.driven (s : State) (e : Event) : Samples :=
  e.drive (s.settle.openTick s.pins.inputs).st s.pins.inputs

/-- The state that the item of an event finds in a tick, if the event is due there. -/
def State.meets (s : State) (w : Option Samples) (e : Event) : Option State :=
  (s.reach w e.item).filter fun s1 =>
    match s1.tick with
    | some t => e.due t.inp s1
    | none => false

/-- An event: the items of its tick before its own and its own item run, and the tick goes on with the next command. It falls
in the tick in progress if it is due there, and else in the next one (DESIGN CHOICE, log entry 5: safe). An event that is due
in neither does not occur, and nothing changes (DEDUCED, log entry 16). While a POR or PIN lasts no tick runs (R170). -/
def State.event (s : State) (e : Event) : State :=
  if s.inReset then s
  else
    match s.meets none e with
    | some s1 => s1.runNext
    | none =>
      match s.meets (some (s.driven e)) e with
      | some s1 => s1.runNext
      | none => s

/-! ### POR and PIN -/

/-- The state a POR or PIN sets, with RSTCAUSE as R173 gives it; the PWM pins, what the last transaction shifted out and the
queue are no part of it. The link stops, and a transaction in flight is over (DEDUCED, log entry 14). -/
def State.hardReset (s : State) (kind : ResetKind) (sticky : BitVec 4) (pins : Pins) : State :=
  { State.reset with
    pins := pins
    link := { State.reset.link with result := ⟨0, 0, 0x0A, ⟨kind.code, 0, 0, 0⟩⟩, sdo := s.link.sdo }
    rstcause := ⟨kind, sticky⟩
    pending := s.pending }

/-- A POR arises; it turns a PIN that lasts into a POR (R169, R170, R173). One that arises while the supply is below
the threshold already sets every block again (DESIGN CHOICE, log entry 30: unsafe). -/
def State.powerOn (s : State) : State :=
  s.hardReset .por ResetKind.por.stickyBit { s.pins with supplyLow := true }

/-- A PIN arises; while a POR or a PIN lasts it changes nothing but the pin (R169, R173). -/
def State.pinLow (s : State) : State :=
  let pins := { s.pins with nrstLow := true }
  if s.inReset then { s with pins := pins }
  else s.hardReset .pin (s.rstcause.sticky ||| ResetKind.pin.stickyBit) pins

/-- The end of one of the two conditions (R170). -/
def State.releaseReset (s : State) (line : ResetLine) : State :=
  match line with
  | .supply => { s with pins := { s.pins with supplyLow := false } }
  | .nrst => { s with pins := { s.pins with nrstLow := false } }

end Sys2Proof.Machine
end

