-- ==== Sys2Proof/Machine/Transfer.lean ====
section
/-! DEFINITION. A host transaction from the fall of nCS to its rise (R158): its bytes clocked one by one with what happens while
nCS is low, the judgement at the rise (R3, R157), and a READ carried to its tick boundary (R4). -/

namespace Sys2Proof.Machine

/-- The bytes of a transaction clocked, each thing that happens while nCS is low at its place; what comes after the last byte
comes before nCS rises. `n` bytes have been clocked. -/
def carry (n : Nat) : List Byte → List Mid → State → State
  | [], mids, s => mids.foldl (fun s m => s.mid m.event) s
  | b :: rest, mids, s =>
    let now := mids.takeWhile fun m => decide (m.after ≤ n)
    let s1 := now.foldl (fun s m => s.mid m.event) s
    carry (n + 1) rest (mids.dropWhile fun m => decide (m.after ≤ n)) (s1.clockByte b)

/-- nCS is high: the transaction in flight is over, and its bytes have been shifted out. A READ of TSTAMP_LO whose CRC byte
has come still makes its capture at the first boundary, however it is judged (R4, R6). -/
def State.lift (s : State) : State :=
  match s.link.flight with
  | none => s
  | some q => { s with link := { s.link with flight := none, sdo := q.sent, owed := s.link.owed || q.owes } }

/-- A judged transaction waits for phase 1 behind those that wait (R3). -/
def State.await (s : State) (j : Option Judged) : State :=
  match j with
  | none => s
  | some j => { s with link := { s.link with waiting := s.link.waiting ++ [j] } }

/-- What the rise of nCS judges of these bytes: nothing if a reset has abandoned the transaction (R168). -/
def Flight.judged (q : Flight) (bytes : List Byte) : Option Judged :=
  if q.dead then none else judge bytes q.snapped

/-- nCS rises after these bytes: the transaction is judged and waits (R3, R157). -/
def State.rise (s : State) (bytes : List Byte) : State :=
  match s.link.flight with
  | none => s
  | some q => s.lift.await (q.judged bytes)

/-- nCS falls: the status byte is captured (R158). -/
def State.fall (s : State) : State := { s with link := { s.link with flight := some s.newFlight } }

/-- The READ in flight that these bytes carry on: the same header, start and count (log entry 13). -/
def Flight.isBy (q : Flight) (bytes : List Byte) : Bool := q.host.take 3 == bytes.take 3 && decide (4 ≤ bytes.length)

/-- The transaction of these bytes is in flight: the READ that READ_SNAPSHOT left in flight, if they carry it on, or a new
one; another one in flight ends first, judged by its own bytes (log entry 13). -/
def State.take (s : State) (bytes : List Byte) : State :=
  match s.link.flight with
  | none => s.fall
  | some q => if q.isBy bytes then s else (s.rise q.host).fall

/-- How many bytes of the transaction in flight have been clocked. -/
def State.clocked (s : State) : Nat :=
  match s.link.flight with
  | none => 0
  | some q => q.sent.length

/-- A transaction up to these bytes, nCS still low. A tick in progress ends before nCS falls (DESIGN CHOICE, log entry 3). -/
def State.transfer (s : State) (bytes : List Byte) (during : List Mid) : State :=
  let s1 := s.settle.take bytes
  carry s1.clocked (bytes.drop s1.clocked) during s1

/-- Time after nCS has risen: the next tick begins, and its phase 1 takes what waits; or nothing happens yet (log entry 4). -/
def State.proceed (s : State) : Option Samples → State
  | none => s
  | some inp => (s.openTick inp).st

/-- A whole host transaction of these bytes. While a POR or PIN lasts the link does not respond (R168). -/
def State.frame (s : State) (bytes : List Byte) (c : Course) : State :=
  if s.inReset then s else ((s.transfer bytes c.during).rise bytes).proceed c.next

/-- A frame with its fill bytes (R156). -/
def State.send (s : State) (f : Frame) (bytes : List Byte) : State := s.frame (bytes ++ f.fill) f.course

/-- An ACTION frame (Table 10-1). -/
def State.action (s : State) (f : Frame) (code : Byte) (args : Quad) : State := s.send f (actionBytes f.tag code args)

/-- A WRITE frame (Table 10-1, R162). -/
def State.writeFrame (s : State) (f : Frame) (start count : Byte) (data : List Word) : State :=
  s.send f (writeBytes f.tag start count data)

/-- A READ up to its CRC byte, and the tick boundary after it, at which its snapshot is taken if its checks pass (R4, R161). -/
def State.readBoundary (s : State) (f : Frame) (r : WordRange) : State :=
  if s.inReset then s else (s.transfer (readBytes f.tag r.start r.count) f.during).snapshot

end Sys2Proof.Machine
end

