-- ==== Sys2Proof/Machine/Timing.lean ====
section
/-! DEFINITION. The meanings of the time-driven commands: TICK, the events that arise inside a tick, the clock monitor's
transitions, the pins and the resets. Each event stands for its item of the tick (log entry 5), and drives its own input pin
where that stands otherwise; a transition of the clock monitor comes between ticks, after the one in progress (R7; log
entry 6). -/

namespace Sys2Proof.Machine

open Host (Outcome)

/-- The answer of a command: the block has no command that stops it. -/
abbrev Answer := Outcome State Fault Refusal

/-! ### The tick and its phase 5 -/

/-- TICK (R13): the tick in progress ends, and a whole tick runs on these samples. -/
def execTick (inp : Samples) (s : State) : Answer := .next (s.wholeTick inp)

/-- An event of one item that drives no pin. -/
def plainEvent (i : Item) (due : Samples → State → Bool) : Event := ⟨fun _ => i, fun _ inp => inp, due⟩

/-- The end of the holdoff: due when the decrement of phase 5 takes HD to 0 (R138, R139). -/
def holdoffExpireEvent : Event := plainEvent .holdoff fun _ s => s.arb.hd == 1

/-- HOLDOFF_EXPIRE (R139). -/
def execHoldoffExpire (s : State) : Answer := .next (s.event holdoffExpireEvent)

/-! ### Conditioners -/

/-- What line k's transition would be on the tick's sample; a disabled line has none (R20, Table 2-2). -/
def State.lineEvent (s : State) (k : LineNo) (inp : Samples) : CondEvent :=
  let l := s.lines[k]
  if l.cfg.enable then (l.cond.step l.cfg.af l.cfg.rf (l.cfg.rawActive (inp.fin.getLsbD k.val))).2 else .none

/-- The levels with bit k of `fin` as line k needs it for a raw-active or raw-inactive sample, by its polarity (R20). -/
def State.driveLine (k : LineNo) (active : Bool) (s : State) (inp : Samples) : Samples :=
  let bit : BitVec 16 := 1 <<< k.val
  { inp with fin := if s.lines[k].cfg.rawActive true = active then inp.fin ||| bit else inp.fin &&& ~~~bit }

/-- Line k's assertion: due when a raw-active sample completes the qualification of an enabled line (R21, R22). -/
def lineAssertEvent (k : LineNo) : Event :=
  ⟨fun _ => .line k, State.driveLine k true, fun inp s => s.lineEvent k inp == .assertion⟩

/-- LINE_ASSERT (R21, R22, R29). -/
def execLineAssert (k : LineNo) (s : State) : Answer := .next (s.event (lineAssertEvent k))

/-- Line k's clear: due when a raw-inactive sample completes the release of an enabled line (R23, R24). -/
def lineClearEvent (k : LineNo) : Event :=
  ⟨fun _ => .line k, State.driveLine k false, fun inp s => s.lineEvent k inp == .clear⟩

/-- LINE_CLEAR (R23, R24, R31). -/
def execLineClear (k : LineNo) (s : State) : Answer := .next (s.event (lineClearEvent k))

/-- What the SUP conditioner's transition would be on the tick's sample (R32). -/
def State.supEvent (s : State) (inp : Samples) : CondEvent :=
  (s.sup.cond.step Config.supAssertLimit Config.supReleaseLimit inp.supLow).2

/-- SUP's assertion: due when a low sample completes the qualification (R32). -/
def supAssertEvent : Event :=
  ⟨fun _ => .sup, fun _ inp => { inp with supLow := true }, fun inp s => s.supEvent inp == .assertion⟩

/-- SUP_ASSERT (R32, R33). -/
def execSupAssert (s : State) : Answer := .next (s.event supAssertEvent)

/-- SUP's clear: due when a sample that is not low completes the release (R32). -/
def supClearEvent : Event :=
  ⟨fun _ => .sup, fun _ inp => { inp with supLow := false }, fun inp s => s.supEvent inp == .clear⟩

/-- SUP_CLEAR (R32, R33). -/
def execSupClear (s : State) : Answer := .next (s.event supClearEvent)

/-- What the SAFE_IN conditioner's transition would be on the tick's sample (R34). -/
def State.safeInEvent (s : State) (inp : Samples) : CondEvent :=
  (s.safeIn.step Config.safeInLimit Config.safeInLimit (!inp.safeIn)).2

/-- SAFE_IN's activation: due when a low sample completes the qualification (R34). -/
def safeInActiveEvent : Event :=
  ⟨fun _ => .safeIn, fun _ inp => { inp with safeIn := false }, fun inp s => s.safeInEvent inp == .assertion⟩

/-- SAFE_IN_ACTIVE (R34, R98). -/
def execSafeInActive (s : State) : Answer := .next (s.event safeInActiveEvent)

/-- SAFE_IN's end: due when a high sample completes the release (R34). -/
def safeInInactiveEvent : Event :=
  ⟨fun _ => .safeIn, fun _ inp => { inp with safeIn := true }, fun inp s => s.safeInEvent inp == .clear⟩

/-- SAFE_IN_INACTIVE (R34). -/
def execSafeInInactive (s : State) : Answer := .next (s.event safeInInactiveEvent)

/-! ### Marks and escalations -/

/-- The pin levels with bit k set or cleared. -/
def setPin (m : BitVec 4) (k : Channel) (level : Bool) : BitVec 4 :=
  if level then m ||| maskOf k else m &&& ~~~(maskOf k)

/-- The levels with WMk at the end of a matching edge: high for Rising, low for Falling, and for Both the other level than the
stored one (R11, R12). -/
def State.driveMark (k : Channel) (s : State) (inp : Samples) : Samples :=
  { inp with wm := setPin inp.wm k (match s.staging.actCh[k].edge with
    | .rising => true
    | .falling => false
    | .both => match s.prevMark k with
      | some before => !before
      | none => inp.wm.getLsbD k.val) }

/-- Channel k's mark: due when the tick's sample gives one (R11, R12). -/
def markEvent (k : Channel) : Event := ⟨fun _ => .chan k, State.driveMark k, fun inp s => s.hasMark k inp.wm⟩

/-- MARK (R67-R70). -/
def execMark (k : Channel) (s : State) : Answer := .next (s.event (markEvent k))

/-- The mark of channel k escalates it: CYCLE, a cause present once the pulse has ended, and the count reaches a nonzero EC
(R67, R69). -/
def State.persistDue (s : State) (k : Channel) (inp : Samples) : Bool :=
  s.hasMark k inp.wm && s.chans[k].st == .cycle && s.heldOn .cycle k && s.persistReaches k

/-- The escalation of channel k by persistence: due when its mark escalates it (R69). -/
def persistEvent (k : Channel) : Event := ⟨fun _ => .chan k, State.driveMark k, fun inp s => s.persistDue k inp⟩

/-- ESCALATE_PERSIST (R69, R75). -/
def execEscalatePersist (k : Channel) (s : State) : Answer := .next (s.event (persistEvent k))

/-- The starvation check of channel k, in a tick without its mark, escalates it (R71, R72). -/
def State.starveDue (s : State) (k : Channel) (inp : Samples) : Bool :=
  let c := s.chans[k]
  !s.hasMark k inp.wm && (if c.starving then s.setChan k { c with timer := satInc c.timer } else s).starved k

/-- The escalation of channel k by starvation: due when its check escalates it (R72). -/
def starveEvent (k : Channel) : Event := plainEvent (.chan k) fun inp s => s.starveDue k inp

/-- ESCALATE_STARVED (R72, R75). -/
def execEscalateStarved (k : Channel) (s : State) : Answer := .next (s.event (starveEvent k))

/-- The item of a scope's armed commit, by the channel whose mark it awaits. -/
def armedItem (scope : Scope) (s : State) : Item :=
  match scope, s.staging.armedTable with
  | .table, some k => .commitTable k
  | .table, none => .commitTable 0
  | .channel k, _ => .commitChannel k

/-- The scope is armed to a channel that has had its mark in this tick (R47). -/
def commitDue (scope : Scope) (s : State) : Bool :=
  match s.staging.armed scope with
  | some k => s.chans[k].markSeen
  | none => false

/-- An armed commit's application: due when its channel has had its mark in the tick (R47). -/
def armedCommitEvent (scope : Scope) : Event :=
  { item := armedItem scope
    drive := fun s inp => match s.staging.armed scope with
      | some k => s.driveMark k inp
      | none => inp
    due := fun _ s => commitDue scope s }

/-- ARMED_COMMIT_APPLY (R47). -/
def execArmedCommitApply (scope : Scope) (s : State) : Answer := .next (s.event (armedCommitEvent scope))

/-! ### Scrubber -/

/-- The advance of the pacing count would bring it to 64 (R54). -/
def State.scrubDue (s : State) : Bool := s.staging.tableValid && s.scrub.pacing.val == Config.scrubLastPace

/-- A read of the scrubber: due when the pacing count reaches 64 (R54). -/
def scrubReadEvent : Event := plainEvent .scrub fun _ s => s.scrubDue

/-- SCRUB_READ (R54): the read of entry 21 ends its pass in the same item (R55). -/
def execScrubRead (s : State) : Answer := .next (s.event scrubReadEvent)

/-- The end of a pass: due when the read of entry 21 completes it (R55). -/
def scrubPassEvent : Event := plainEvent .scrub fun _ s => s.scrubDue && s.scrub.position == 21

/-- SCRUB_PASS_END (R55). -/
def execScrubPassEnd (s : State) : Answer := .next (s.event scrubPassEvent)

/-! ### Clock monitor -/

/-- REFCLK_MISSING (R8): backup periods pass without a REFCLK edge until the gap count reaches 32 in GOOD. -/
def execRefclkMissing (s : State) : Answer := .next (s.settle.clockEvent .missing)

/-- REFCLK_RETURN (R8): the first rising edge of REFCLK seen in LOST. -/
def execRefclkReturn (s : State) : Answer := .next (s.settle.clockEvent .returned)

/-- REFCLK_LOST_AGAIN (R9): the gap count reaches 32 in RECOVERING. -/
def execRefclkLostAgain (s : State) : Answer := .next (s.settle.clockEvent .lostAgain)

/-- REFCLK_GOOD_PERIOD (R9): a rising edge ends a good period in RECOVERING; the 4096th completes the recovery (R10). -/
def execRefclkGoodPeriod (s : State) : Answer := .next (s.settle.clockEvent .goodPeriod)

/-- CLOCK_RECOVERED (R10): a good period brings the recovery count to 4096. -/
def execClockRecovered (s : State) : Answer := .next (s.settle.clockEvent .recovered)

/-- The raise of CLK: due when it is the first hand-off that awaits the monitor's item (R7). -/
def clkRaiseEvent : Event := plainEvent .clk fun _ s => s.clk.handOffs.head? == some .raise

/-- CLK_RAISE (R145). -/
def execClkRaise (s : State) : Answer := .next (s.event clkRaiseEvent)

/-- The clear of CLK: due when it is the first hand-off that awaits the monitor's item (R7). -/
def clkClearEvent : Event := plainEvent .clk fun _ s => s.clk.handOffs.head? == some .clear

/-- CLK_CLEAR (R10). -/
def execClkClear (s : State) : Answer := .next (s.event clkClearEvent)

/-! ### Keepalive supervisor -/

/-- The end of the supervisor's window in one of its states. -/
def windowEvent (st : WdgState) : Event := plainEvent .wdg fun _ s => s.wdg.st == st && s.wdg.expires

/-- The closed window's end (R150). -/
def windowOpenEvent : Event := windowEvent .closed

/-- WINDOW_OPEN (R150). -/
def execWindowOpen (s : State) : Answer := .next (s.event windowOpenEvent)

/-- The open window's end (R150). -/
def lateViolationEvent : Event := windowEvent .opened

/-- LATE_VIOLATION (R150, R152). -/
def execLateViolation (s : State) : Answer := .next (s.event lateViolationEvent)

/-- The end of LAPSED's window (R154). -/
def secondLapseEvent : Event := windowEvent .lapsed

/-- SECOND_LAPSE (R154). -/
def execSecondLapse (s : State) : Answer := .next (s.event secondLapseEvent)

/-! ### Resets and pins -/

/-- POR (R169, R170). -/
def execPor (s : State) : Answer := .next s.powerOn

/-- PIN_RESET (R169, R170). -/
def execPinReset (s : State) : Answer := .next s.pinLow

/-- RESET_RELEASE (R170). -/
def execResetRelease (line : ResetLine) (s : State) : Answer := .next (s.releaseReset line)

/-- PWM_INPUT_EDGE (R90): the pin's level changes, and an output under layer 5 with it (`State.outLevel`). -/
def execPwmInputEdge (k : Channel) (side : Side) (level : Bool) (s : State) : Answer :=
  .next { s with pins := match side with
    | .a => { s.pins with pa := setPin s.pins.pa k level }
    | .b => { s.pins with pb := setPin s.pins.pb k level } }

end Sys2Proof.Machine
end

