-- ==== Sys2Proof/Machine/Transactions.lean ====
section
/-! DEFINITION. The meanings of the host transactions that carry no action: FRAME_ERROR, NULL, READ and its snapshot, WRITE,
and the writes that the command table lists by the register they write (chapter Host Link Protocol). A WRITE of one word
carries count 1. -/

namespace Sys2Proof.Machine

/-- FRAME_ERROR (R157, R175): the transaction of these bytes, which fail a frame check; bytes that pass are the transaction
they spell (R156; log entry 17). -/
def execFrameError (bytes : List Byte) (course : Course) (s : State) : Answer := .next (s.frame bytes course)

/-- NULL (R163). -/
def execNull (f : Frame) (s : State) : Answer := .next (s.send f (nullBytes f.tag))

/-- READ (R161), with the tick that begins right after its CRC byte, if one does (R4). -/
def execRead (f : Frame) (start count : Byte) (inTime : Option Samples) (s : State) : Answer :=
  .next (s.send (f.tickAfter 4 inTime) (readBytes f.tag start count))

/-- READ_SNAPSHOT (R4, R6). -/
def execReadSnapshot (f : Frame) (range : WordRange) (s : State) : Answer := .next (s.readBoundary f range)

/-- WRITE (R162). -/
def execWrite (f : Frame) (start count : Byte) (data : List Word) (s : State) : Answer :=
  .next (s.writeFrame f start count data)

/-- The address of LINEMODEk (Table 11-2). -/
def lineModeAddr (k : LineNo) : Byte := 0x10 + BitVec.ofNat 8 k.val

/-- LINE_ENABLE (R28): the WRITE of LINEMODEk with Enable set. -/
def execLineEnable (f : Frame) (k : LineNo) (word : Word) (s : State) : Answer :=
  .next (s.writeFrame f (lineModeAddr k) 1 [word])

/-- LINE_DISABLE (R28): the WRITE of LINEMODEk with Enable clear. -/
def execLineDisable (f : Frame) (k : LineNo) (word : Word) (s : State) : Answer :=
  .next (s.writeFrame f (lineModeAddr k) 1 [word])

/-- POLARITY_CHANGE (R27): the WRITE of LINEMODEk. -/
def execPolarityChange (f : Frame) (k : LineNo) (word : Word) (s : State) : Answer :=
  .next (s.writeFrame f (lineModeAddr k) 1 [word])

/-- SHADOW_WRITE (R41): the WRITE of these words from an address of SHTAB or SHCH. -/
def execShadowWrite (f : Frame) (start : Byte) (data : List Word) (s : State) : Answer :=
  .next (s.writeFrame f start (BitVec.ofNat 8 data.length) data)

/-- SAFEPAT_WRITE (R93). -/
def execSafepatWrite (f : Frame) (word : Word) (s : State) : Answer := .next (s.writeFrame f 0xE8 1 [word])

/-- ARBCFG_WRITE (R133). -/
def execArbcfgWrite (f : Frame) (word : Word) (s : State) : Answer := .next (s.writeFrame f 0x5F 1 [word])

/-- WDGCFG_WRITE (R148). -/
def execWdgcfgWrite (f : Frame) (word : Word) (s : State) : Answer := .next (s.writeFrame f 0x08 1 [word])

/-- JRNL_CFG_WRITE (R122). -/
def execJrnlCfgWrite (f : Frame) (word : Word) (s : State) : Answer := .next (s.writeFrame f 0xFB 1 [word])

end Sys2Proof.Machine
end

