-- ==== Sys2Proof/Machine/Actions.lean ====
section
/-! DEFINITION. The meanings of the host actions (Table 10-5): each is an ACTION frame with its code, judged at once and taken
in phase 1 of a tick, where `actByCode` gives its step. -/

namespace Sys2Proof.Machine

/-- ACCEPT (R135): action code 1. -/
def execAccept (f : Frame) (args : Quad) (s : State) : Answer := .next (s.action f 1 args)

/-- DONE (R136): action code 2. -/
def execDone (f : Frame) (args : Quad) (s : State) : Answer := .next (s.action f 2 args)

/-- SET_LEVEL (R137): action code 3. -/
def execSetLevel (f : Frame) (args : Quad) (s : State) : Answer := .next (s.action f 3 args)

/-- HOLDOFF (R138): action code 4. -/
def execHoldoff (f : Frame) (args : Quad) (s : State) : Answer := .next (s.action f 4 args)

/-- CANCEL (R140): action code 5. -/
def execCancel (f : Frame) (args : Quad) (s : State) : Answer := .next (s.action f 5 args)

/-- COMMIT (R44-R46): action code 6. -/
def execCommit (f : Frame) (args : Quad) (s : State) : Answer := .next (s.action f 6 args)

/-- ABORT_COMMIT (R48): action code 7. -/
def execAbortCommit (f : Frame) (args : Quad) (s : State) : Answer := .next (s.action f 7 args)

/-- CLEAR_LATCH (R76-R79): action code 8. -/
def execClearLatch (f : Frame) (args : Quad) (s : State) : Answer := .next (s.action f 8 args)

/-- FORCE_TRIP (R81, R82): action code 9. -/
def execForceTrip (f : Frame) (args : Quad) (s : State) : Answer := .next (s.action f 9 args)

/-- FORCE_SAFE (R104): action code 10. -/
def execForceSafe (f : Frame) (args : Quad) (s : State) : Answer := .next (s.action f 10 args)

/-- EXIT_SAFE (R105-R107): action code 11. -/
def execExitSafe (f : Frame) (args : Quad) (s : State) : Answer := .next (s.action f 11 args)

/-- JOURNAL_POP (R121): action code 12. -/
def execJournalPop (f : Frame) (args : Quad) (s : State) : Answer := .next (s.action f 12 args)

/-- KEEPALIVE (R151-R153): action code 13. -/
def execKeepalive (f : Frame) (args : Quad) (s : State) : Answer := .next (s.action f 13 args)

/-- WDG_ARM (R149): action code 14. -/
def execWdgArm (f : Frame) (args : Quad) (s : State) : Answer := .next (s.action f 14 args)

/-- LOCK (R57): action code 15. -/
def execLock (f : Frame) (args : Quad) (s : State) : Answer := .next (s.action f 15 args)

/-- UNLOCK (R58): action code 16. -/
def execUnlock (f : Frame) (args : Quad) (s : State) : Answer := .next (s.action f 16 args)

/-- CONFIRM (R165): action code 17. -/
def execConfirm (f : Frame) (args : Quad) (s : State) : Answer := .next (s.action f 17 args)

/-- RESET_DEVICE (R172): action code 18. -/
def execResetDevice (f : Frame) (args : Quad) (s : State) : Answer := .next (s.action f 18 args)

/-- SELFTEST (R56): action code 19. -/
def execSelftest (f : Frame) (args : Quad) (s : State) : Answer := .next (s.action f 19 args)

/-- CLEAR_COUNTERS (R176): action code 20. -/
def execClearCounters (f : Frame) (args : Quad) (s : State) : Answer := .next (s.action f 20 args)

/-- CLEAR_CAUSE (R174): action code 21. -/
def execClearCause (f : Frame) (args : Quad) (s : State) : Answer := .next (s.action f 21 args)

/-- UNKNOWN_ACTION_CODE (R166): an ACTION frame with any other code (log entry 20). -/
def execUnknownActionCode (f : Frame) (code : Byte) (args : Quad) (s : State) : Answer := .next (s.action f code args)

end Sys2Proof.Machine
end

