-- ==== Sys2Proof/Machine/Dispatch.lean ====
section
/-! DEFINITION. The dispatch of the commands to their meanings. -/

namespace Sys2Proof.Machine

def exec (i : Instr) (s : State) : Host.Outcome State Fault Refusal :=
  match i with
  | .tick inp => Sys2Proof.Machine.execTick inp s
  | .holdoffExpire => Sys2Proof.Machine.execHoldoffExpire s
  | .lineAssert k => Sys2Proof.Machine.execLineAssert k s
  | .lineClear k => Sys2Proof.Machine.execLineClear k s
  | .supAssert => Sys2Proof.Machine.execSupAssert s
  | .supClear => Sys2Proof.Machine.execSupClear s
  | .safeInActive => Sys2Proof.Machine.execSafeInActive s
  | .safeInInactive => Sys2Proof.Machine.execSafeInInactive s
  | .mark k => Sys2Proof.Machine.execMark k s
  | .escalatePersist k => Sys2Proof.Machine.execEscalatePersist k s
  | .escalateStarved k => Sys2Proof.Machine.execEscalateStarved k s
  | .armedCommitApply scope => Sys2Proof.Machine.execArmedCommitApply scope s
  | .scrubRead => Sys2Proof.Machine.execScrubRead s
  | .scrubPassEnd => Sys2Proof.Machine.execScrubPassEnd s
  | .refclkMissing => Sys2Proof.Machine.execRefclkMissing s
  | .clkRaise => Sys2Proof.Machine.execClkRaise s
  | .refclkReturn => Sys2Proof.Machine.execRefclkReturn s
  | .refclkLostAgain => Sys2Proof.Machine.execRefclkLostAgain s
  | .clockRecovered => Sys2Proof.Machine.execClockRecovered s
  | .clkClear => Sys2Proof.Machine.execClkClear s
  | .windowOpen => Sys2Proof.Machine.execWindowOpen s
  | .lateViolation => Sys2Proof.Machine.execLateViolation s
  | .secondLapse => Sys2Proof.Machine.execSecondLapse s
  | .por => Sys2Proof.Machine.execPor s
  | .pinReset => Sys2Proof.Machine.execPinReset s
  | .frameError bytes course => Sys2Proof.Machine.execFrameError bytes course s
  | .null f => Sys2Proof.Machine.execNull f s
  | .read f start count inTime => Sys2Proof.Machine.execRead f start count inTime s
  | .readSnapshot f range => Sys2Proof.Machine.execReadSnapshot f range s
  | .write f start count data => Sys2Proof.Machine.execWrite f start count data s
  | .lineEnable f k word => Sys2Proof.Machine.execLineEnable f k word s
  | .lineDisable f k word => Sys2Proof.Machine.execLineDisable f k word s
  | .polarityChange f k word => Sys2Proof.Machine.execPolarityChange f k word s
  | .shadowWrite f start data => Sys2Proof.Machine.execShadowWrite f start data s
  | .safepatWrite f word => Sys2Proof.Machine.execSafepatWrite f word s
  | .arbcfgWrite f word => Sys2Proof.Machine.execArbcfgWrite f word s
  | .wdgcfgWrite f word => Sys2Proof.Machine.execWdgcfgWrite f word s
  | .jrnlCfgWrite f word => Sys2Proof.Machine.execJrnlCfgWrite f word s
  | .accept f args => Sys2Proof.Machine.execAccept f args s
  | .done f args => Sys2Proof.Machine.execDone f args s
  | .setLevel f args => Sys2Proof.Machine.execSetLevel f args s
  | .holdoff f args => Sys2Proof.Machine.execHoldoff f args s
  | .cancel f args => Sys2Proof.Machine.execCancel f args s
  | .commit f args => Sys2Proof.Machine.execCommit f args s
  | .abortCommit f args => Sys2Proof.Machine.execAbortCommit f args s
  | .clearLatch f args => Sys2Proof.Machine.execClearLatch f args s
  | .forceTrip f args => Sys2Proof.Machine.execForceTrip f args s
  | .forceSafe f args => Sys2Proof.Machine.execForceSafe f args s
  | .exitSafe f args => Sys2Proof.Machine.execExitSafe f args s
  | .journalPop f args => Sys2Proof.Machine.execJournalPop f args s
  | .keepalive f args => Sys2Proof.Machine.execKeepalive f args s
  | .wdgArm f args => Sys2Proof.Machine.execWdgArm f args s
  | .lock f args => Sys2Proof.Machine.execLock f args s
  | .unlock f args => Sys2Proof.Machine.execUnlock f args s
  | .confirm f args => Sys2Proof.Machine.execConfirm f args s
  | .resetDevice f args => Sys2Proof.Machine.execResetDevice f args s
  | .selftest f args => Sys2Proof.Machine.execSelftest f args s
  | .clearCounters f args => Sys2Proof.Machine.execClearCounters f args s
  | .clearCause f args => Sys2Proof.Machine.execClearCause f args s
  | .refclkGoodPeriod => Sys2Proof.Machine.execRefclkGoodPeriod s
  | .pwmInputEdge k side level => Sys2Proof.Machine.execPwmInputEdge k side level s
  | .resetRelease line => Sys2Proof.Machine.execResetRelease line s
  | .unknownActionCode f code args => Sys2Proof.Machine.execUnknownActionCode f code args s

end Sys2Proof.Machine
end

