-- ==== Sys2Proof/Laws/State.lean ====
section
/-! SUPPORT. One lemma per block per update: what each named update of the state leaves as it was, and what the updates of
single elements set. -/

namespace Sys2Proof.Machine

variable (s : State)

/-! ### `State.setLine` -/

@[simp] theorem State.setLine_time (k : LineNo) (l : Line) : (s.setLine k l).time = s.time := rfl
@[simp] theorem State.setLine_clk (k : LineNo) (l : Line) : (s.setLine k l).clk = s.clk := rfl
@[simp] theorem State.setLine_tick (k : LineNo) (l : Line) : (s.setLine k l).tick = s.tick := rfl
@[simp] theorem State.setLine_sup (k : LineNo) (l : Line) : (s.setLine k l).sup = s.sup := rfl
@[simp] theorem State.setLine_safeIn (k : LineNo) (l : Line) : (s.setLine k l).safeIn = s.safeIn := rfl
@[simp] theorem State.setLine_staging (k : LineNo) (l : Line) : (s.setLine k l).staging = s.staging := rfl
@[simp] theorem State.setLine_scrub (k : LineNo) (l : Line) : (s.setLine k l).scrub = s.scrub := rfl
@[simp] theorem State.setLine_chans (k : LineNo) (l : Line) : (s.setLine k l).chans = s.chans := rfl
@[simp] theorem State.setLine_causes (k : LineNo) (l : Line) : (s.setLine k l).causes = s.causes := rfl
@[simp] theorem State.setLine_safepat (k : LineNo) (l : Line) : (s.setLine k l).safepat = s.safepat := rfl
@[simp] theorem State.setLine_outs (k : LineNo) (l : Line) : (s.setLine k l).outs = s.outs := rfl
@[simp] theorem State.setLine_pins (k : LineNo) (l : Line) : (s.setLine k l).pins = s.pins := rfl
@[simp] theorem State.setLine_journal (k : LineNo) (l : Line) : (s.setLine k l).journal = s.journal := rfl
@[simp] theorem State.setLine_arb (k : LineNo) (l : Line) : (s.setLine k l).arb = s.arb := rfl
@[simp] theorem State.setLine_wdg (k : LineNo) (l : Line) : (s.setLine k l).wdg = s.wdg := rfl
@[simp] theorem State.setLine_link (k : LineNo) (l : Line) : (s.setLine k l).link = s.link := rfl
@[simp] theorem State.setLine_counters (k : LineNo) (l : Line) : (s.setLine k l).counters = s.counters := rfl
@[simp] theorem State.setLine_rstcause (k : LineNo) (l : Line) : (s.setLine k l).rstcause = s.rstcause := rfl
@[simp] theorem State.setLine_pending (k : LineNo) (l : Line) : (s.setLine k l).pending = s.pending := rfl

/-! ### `State.setChan` -/

@[simp] theorem State.setChan_time (k : Channel) (c : Chan) : (s.setChan k c).time = s.time := rfl
@[simp] theorem State.setChan_clk (k : Channel) (c : Chan) : (s.setChan k c).clk = s.clk := rfl
@[simp] theorem State.setChan_tick (k : Channel) (c : Chan) : (s.setChan k c).tick = s.tick := rfl
@[simp] theorem State.setChan_lines (k : Channel) (c : Chan) : (s.setChan k c).lines = s.lines := rfl
@[simp] theorem State.setChan_sup (k : Channel) (c : Chan) : (s.setChan k c).sup = s.sup := rfl
@[simp] theorem State.setChan_safeIn (k : Channel) (c : Chan) : (s.setChan k c).safeIn = s.safeIn := rfl
@[simp] theorem State.setChan_staging (k : Channel) (c : Chan) : (s.setChan k c).staging = s.staging := rfl
@[simp] theorem State.setChan_scrub (k : Channel) (c : Chan) : (s.setChan k c).scrub = s.scrub := rfl
@[simp] theorem State.setChan_causes (k : Channel) (c : Chan) : (s.setChan k c).causes = s.causes := rfl
@[simp] theorem State.setChan_safepat (k : Channel) (c : Chan) : (s.setChan k c).safepat = s.safepat := rfl
@[simp] theorem State.setChan_outs (k : Channel) (c : Chan) : (s.setChan k c).outs = s.outs := rfl
@[simp] theorem State.setChan_pins (k : Channel) (c : Chan) : (s.setChan k c).pins = s.pins := rfl
@[simp] theorem State.setChan_journal (k : Channel) (c : Chan) : (s.setChan k c).journal = s.journal := rfl
@[simp] theorem State.setChan_arb (k : Channel) (c : Chan) : (s.setChan k c).arb = s.arb := rfl
@[simp] theorem State.setChan_wdg (k : Channel) (c : Chan) : (s.setChan k c).wdg = s.wdg := rfl
@[simp] theorem State.setChan_link (k : Channel) (c : Chan) : (s.setChan k c).link = s.link := rfl
@[simp] theorem State.setChan_counters (k : Channel) (c : Chan) : (s.setChan k c).counters = s.counters := rfl
@[simp] theorem State.setChan_rstcause (k : Channel) (c : Chan) : (s.setChan k c).rstcause = s.rstcause := rfl
@[simp] theorem State.setChan_pending (k : Channel) (c : Chan) : (s.setChan k c).pending = s.pending := rfl

/-! ### `State.setPend` -/

@[simp] theorem State.setPend_time (src : Source) (p : Option Pend) : (s.setPend src p).time = s.time := rfl
@[simp] theorem State.setPend_clk (src : Source) (p : Option Pend) : (s.setPend src p).clk = s.clk := rfl
@[simp] theorem State.setPend_tick (src : Source) (p : Option Pend) : (s.setPend src p).tick = s.tick := rfl
@[simp] theorem State.setPend_lines (src : Source) (p : Option Pend) : (s.setPend src p).lines = s.lines := rfl
@[simp] theorem State.setPend_sup (src : Source) (p : Option Pend) : (s.setPend src p).sup = s.sup := rfl
@[simp] theorem State.setPend_safeIn (src : Source) (p : Option Pend) : (s.setPend src p).safeIn = s.safeIn := rfl
@[simp] theorem State.setPend_staging (src : Source) (p : Option Pend) : (s.setPend src p).staging = s.staging := rfl
@[simp] theorem State.setPend_scrub (src : Source) (p : Option Pend) : (s.setPend src p).scrub = s.scrub := rfl
@[simp] theorem State.setPend_chans (src : Source) (p : Option Pend) : (s.setPend src p).chans = s.chans := rfl
@[simp] theorem State.setPend_causes (src : Source) (p : Option Pend) : (s.setPend src p).causes = s.causes := rfl
@[simp] theorem State.setPend_safepat (src : Source) (p : Option Pend) : (s.setPend src p).safepat = s.safepat := rfl
@[simp] theorem State.setPend_outs (src : Source) (p : Option Pend) : (s.setPend src p).outs = s.outs := rfl
@[simp] theorem State.setPend_pins (src : Source) (p : Option Pend) : (s.setPend src p).pins = s.pins := rfl
@[simp] theorem State.setPend_journal (src : Source) (p : Option Pend) : (s.setPend src p).journal = s.journal := rfl
@[simp] theorem State.setPend_wdg (src : Source) (p : Option Pend) : (s.setPend src p).wdg = s.wdg := rfl
@[simp] theorem State.setPend_link (src : Source) (p : Option Pend) : (s.setPend src p).link = s.link := rfl
@[simp] theorem State.setPend_counters (src : Source) (p : Option Pend) : (s.setPend src p).counters = s.counters := rfl
@[simp] theorem State.setPend_rstcause (src : Source) (p : Option Pend) : (s.setPend src p).rstcause = s.rstcause := rfl
@[simp] theorem State.setPend_pending (src : Source) (p : Option Pend) : (s.setPend src p).pending = s.pending := rfl

/-! ### `State.mapChans` -/

@[simp] theorem State.mapChans_time (f : Channel → Chan → Chan) : (s.mapChans f).time = s.time := rfl
@[simp] theorem State.mapChans_clk (f : Channel → Chan → Chan) : (s.mapChans f).clk = s.clk := rfl
@[simp] theorem State.mapChans_tick (f : Channel → Chan → Chan) : (s.mapChans f).tick = s.tick := rfl
@[simp] theorem State.mapChans_lines (f : Channel → Chan → Chan) : (s.mapChans f).lines = s.lines := rfl
@[simp] theorem State.mapChans_sup (f : Channel → Chan → Chan) : (s.mapChans f).sup = s.sup := rfl
@[simp] theorem State.mapChans_safeIn (f : Channel → Chan → Chan) : (s.mapChans f).safeIn = s.safeIn := rfl
@[simp] theorem State.mapChans_staging (f : Channel → Chan → Chan) : (s.mapChans f).staging = s.staging := rfl
@[simp] theorem State.mapChans_scrub (f : Channel → Chan → Chan) : (s.mapChans f).scrub = s.scrub := rfl
@[simp] theorem State.mapChans_causes (f : Channel → Chan → Chan) : (s.mapChans f).causes = s.causes := rfl
@[simp] theorem State.mapChans_safepat (f : Channel → Chan → Chan) : (s.mapChans f).safepat = s.safepat := rfl
@[simp] theorem State.mapChans_outs (f : Channel → Chan → Chan) : (s.mapChans f).outs = s.outs := rfl
@[simp] theorem State.mapChans_pins (f : Channel → Chan → Chan) : (s.mapChans f).pins = s.pins := rfl
@[simp] theorem State.mapChans_journal (f : Channel → Chan → Chan) : (s.mapChans f).journal = s.journal := rfl
@[simp] theorem State.mapChans_arb (f : Channel → Chan → Chan) : (s.mapChans f).arb = s.arb := rfl
@[simp] theorem State.mapChans_wdg (f : Channel → Chan → Chan) : (s.mapChans f).wdg = s.wdg := rfl
@[simp] theorem State.mapChans_link (f : Channel → Chan → Chan) : (s.mapChans f).link = s.link := rfl
@[simp] theorem State.mapChans_counters (f : Channel → Chan → Chan) : (s.mapChans f).counters = s.counters := rfl
@[simp] theorem State.mapChans_rstcause (f : Channel → Chan → Chan) : (s.mapChans f).rstcause = s.rstcause := rfl
@[simp] theorem State.mapChans_pending (f : Channel → Chan → Chan) : (s.mapChans f).pending = s.pending := rfl

/-! ### `State.recomputeOutputs` -/

@[simp] theorem State.recomputeOutputs_time : (s.recomputeOutputs).time = s.time := rfl
@[simp] theorem State.recomputeOutputs_clk : (s.recomputeOutputs).clk = s.clk := rfl
@[simp] theorem State.recomputeOutputs_tick : (s.recomputeOutputs).tick = s.tick := rfl
@[simp] theorem State.recomputeOutputs_lines : (s.recomputeOutputs).lines = s.lines := rfl
@[simp] theorem State.recomputeOutputs_sup : (s.recomputeOutputs).sup = s.sup := rfl
@[simp] theorem State.recomputeOutputs_safeIn : (s.recomputeOutputs).safeIn = s.safeIn := rfl
@[simp] theorem State.recomputeOutputs_staging : (s.recomputeOutputs).staging = s.staging := rfl
@[simp] theorem State.recomputeOutputs_scrub : (s.recomputeOutputs).scrub = s.scrub := rfl
@[simp] theorem State.recomputeOutputs_chans : (s.recomputeOutputs).chans = s.chans := rfl
@[simp] theorem State.recomputeOutputs_causes : (s.recomputeOutputs).causes = s.causes := rfl
@[simp] theorem State.recomputeOutputs_safepat : (s.recomputeOutputs).safepat = s.safepat := rfl
@[simp] theorem State.recomputeOutputs_pins : (s.recomputeOutputs).pins = s.pins := rfl
@[simp] theorem State.recomputeOutputs_journal : (s.recomputeOutputs).journal = s.journal := rfl
@[simp] theorem State.recomputeOutputs_arb : (s.recomputeOutputs).arb = s.arb := rfl
@[simp] theorem State.recomputeOutputs_wdg : (s.recomputeOutputs).wdg = s.wdg := rfl
@[simp] theorem State.recomputeOutputs_link : (s.recomputeOutputs).link = s.link := rfl
@[simp] theorem State.recomputeOutputs_counters : (s.recomputeOutputs).counters = s.counters := rfl
@[simp] theorem State.recomputeOutputs_rstcause : (s.recomputeOutputs).rstcause = s.rstcause := rfl
@[simp] theorem State.recomputeOutputs_pending : (s.recomputeOutputs).pending = s.pending := rfl

/-! ### `State.recomputeIrq` -/

@[simp] theorem State.recomputeIrq_time (h : Bool) : (s.recomputeIrq h).time = s.time := rfl
@[simp] theorem State.recomputeIrq_clk (h : Bool) : (s.recomputeIrq h).clk = s.clk := rfl
@[simp] theorem State.recomputeIrq_tick (h : Bool) : (s.recomputeIrq h).tick = s.tick := rfl
@[simp] theorem State.recomputeIrq_lines (h : Bool) : (s.recomputeIrq h).lines = s.lines := rfl
@[simp] theorem State.recomputeIrq_sup (h : Bool) : (s.recomputeIrq h).sup = s.sup := rfl
@[simp] theorem State.recomputeIrq_safeIn (h : Bool) : (s.recomputeIrq h).safeIn = s.safeIn := rfl
@[simp] theorem State.recomputeIrq_staging (h : Bool) : (s.recomputeIrq h).staging = s.staging := rfl
@[simp] theorem State.recomputeIrq_scrub (h : Bool) : (s.recomputeIrq h).scrub = s.scrub := rfl
@[simp] theorem State.recomputeIrq_chans (h : Bool) : (s.recomputeIrq h).chans = s.chans := rfl
@[simp] theorem State.recomputeIrq_causes (h : Bool) : (s.recomputeIrq h).causes = s.causes := rfl
@[simp] theorem State.recomputeIrq_safepat (h : Bool) : (s.recomputeIrq h).safepat = s.safepat := rfl
@[simp] theorem State.recomputeIrq_pins (h : Bool) : (s.recomputeIrq h).pins = s.pins := rfl
@[simp] theorem State.recomputeIrq_journal (h : Bool) : (s.recomputeIrq h).journal = s.journal := rfl
@[simp] theorem State.recomputeIrq_arb (h : Bool) : (s.recomputeIrq h).arb = s.arb := rfl
@[simp] theorem State.recomputeIrq_wdg (h : Bool) : (s.recomputeIrq h).wdg = s.wdg := rfl
@[simp] theorem State.recomputeIrq_link (h : Bool) : (s.recomputeIrq h).link = s.link := rfl
@[simp] theorem State.recomputeIrq_counters (h : Bool) : (s.recomputeIrq h).counters = s.counters := rfl
@[simp] theorem State.recomputeIrq_rstcause (h : Bool) : (s.recomputeIrq h).rstcause = s.rstcause := rfl
@[simp] theorem State.recomputeIrq_pending (h : Bool) : (s.recomputeIrq h).pending = s.pending := rfl

/-! ### `State.storeResult` -/

@[simp] theorem State.storeResult_time (kind : BitVec 2) (tag : BitVec 6) (v : Byte) (p : Quad) : (s.storeResult kind tag v p).time = s.time := rfl
@[simp] theorem State.storeResult_clk (kind : BitVec 2) (tag : BitVec 6) (v : Byte) (p : Quad) : (s.storeResult kind tag v p).clk = s.clk := rfl
@[simp] theorem State.storeResult_tick (kind : BitVec 2) (tag : BitVec 6) (v : Byte) (p : Quad) : (s.storeResult kind tag v p).tick = s.tick := rfl
@[simp] theorem State.storeResult_lines (kind : BitVec 2) (tag : BitVec 6) (v : Byte) (p : Quad) : (s.storeResult kind tag v p).lines = s.lines := rfl
@[simp] theorem State.storeResult_sup (kind : BitVec 2) (tag : BitVec 6) (v : Byte) (p : Quad) : (s.storeResult kind tag v p).sup = s.sup := rfl
@[simp] theorem State.storeResult_safeIn (kind : BitVec 2) (tag : BitVec 6) (v : Byte) (p : Quad) : (s.storeResult kind tag v p).safeIn = s.safeIn := rfl
@[simp] theorem State.storeResult_staging (kind : BitVec 2) (tag : BitVec 6) (v : Byte) (p : Quad) : (s.storeResult kind tag v p).staging = s.staging := rfl
@[simp] theorem State.storeResult_scrub (kind : BitVec 2) (tag : BitVec 6) (v : Byte) (p : Quad) : (s.storeResult kind tag v p).scrub = s.scrub := rfl
@[simp] theorem State.storeResult_chans (kind : BitVec 2) (tag : BitVec 6) (v : Byte) (p : Quad) : (s.storeResult kind tag v p).chans = s.chans := rfl
@[simp] theorem State.storeResult_causes (kind : BitVec 2) (tag : BitVec 6) (v : Byte) (p : Quad) : (s.storeResult kind tag v p).causes = s.causes := rfl
@[simp] theorem State.storeResult_safepat (kind : BitVec 2) (tag : BitVec 6) (v : Byte) (p : Quad) : (s.storeResult kind tag v p).safepat = s.safepat := rfl
@[simp] theorem State.storeResult_outs (kind : BitVec 2) (tag : BitVec 6) (v : Byte) (p : Quad) : (s.storeResult kind tag v p).outs = s.outs := rfl
@[simp] theorem State.storeResult_pins (kind : BitVec 2) (tag : BitVec 6) (v : Byte) (p : Quad) : (s.storeResult kind tag v p).pins = s.pins := rfl
@[simp] theorem State.storeResult_journal (kind : BitVec 2) (tag : BitVec 6) (v : Byte) (p : Quad) : (s.storeResult kind tag v p).journal = s.journal := rfl
@[simp] theorem State.storeResult_arb (kind : BitVec 2) (tag : BitVec 6) (v : Byte) (p : Quad) : (s.storeResult kind tag v p).arb = s.arb := rfl
@[simp] theorem State.storeResult_wdg (kind : BitVec 2) (tag : BitVec 6) (v : Byte) (p : Quad) : (s.storeResult kind tag v p).wdg = s.wdg := rfl
@[simp] theorem State.storeResult_counters (kind : BitVec 2) (tag : BitVec 6) (v : Byte) (p : Quad) : (s.storeResult kind tag v p).counters = s.counters := rfl
@[simp] theorem State.storeResult_rstcause (kind : BitVec 2) (tag : BitVec 6) (v : Byte) (p : Quad) : (s.storeResult kind tag v p).rstcause = s.rstcause := rfl
@[simp] theorem State.storeResult_pending (kind : BitVec 2) (tag : BitVec 6) (v : Byte) (p : Quad) : (s.storeResult kind tag v p).pending = s.pending := rfl

/-! ### `State.endConfirm` -/

@[simp] theorem State.endConfirm_time : (s.endConfirm).time = s.time := rfl
@[simp] theorem State.endConfirm_clk : (s.endConfirm).clk = s.clk := rfl
@[simp] theorem State.endConfirm_tick : (s.endConfirm).tick = s.tick := rfl
@[simp] theorem State.endConfirm_lines : (s.endConfirm).lines = s.lines := rfl
@[simp] theorem State.endConfirm_sup : (s.endConfirm).sup = s.sup := rfl
@[simp] theorem State.endConfirm_safeIn : (s.endConfirm).safeIn = s.safeIn := rfl
@[simp] theorem State.endConfirm_staging : (s.endConfirm).staging = s.staging := rfl
@[simp] theorem State.endConfirm_scrub : (s.endConfirm).scrub = s.scrub := rfl
@[simp] theorem State.endConfirm_chans : (s.endConfirm).chans = s.chans := rfl
@[simp] theorem State.endConfirm_causes : (s.endConfirm).causes = s.causes := rfl
@[simp] theorem State.endConfirm_safepat : (s.endConfirm).safepat = s.safepat := rfl
@[simp] theorem State.endConfirm_outs : (s.endConfirm).outs = s.outs := rfl
@[simp] theorem State.endConfirm_pins : (s.endConfirm).pins = s.pins := rfl
@[simp] theorem State.endConfirm_journal : (s.endConfirm).journal = s.journal := rfl
@[simp] theorem State.endConfirm_arb : (s.endConfirm).arb = s.arb := rfl
@[simp] theorem State.endConfirm_wdg : (s.endConfirm).wdg = s.wdg := rfl
@[simp] theorem State.endConfirm_counters : (s.endConfirm).counters = s.counters := rfl
@[simp] theorem State.endConfirm_rstcause : (s.endConfirm).rstcause = s.rstcause := rfl
@[simp] theorem State.endConfirm_pending : (s.endConfirm).pending = s.pending := rfl

/-! ### `State.breakChain` -/

@[simp] theorem State.breakChain_time : (s.breakChain).time = s.time := rfl
@[simp] theorem State.breakChain_clk : (s.breakChain).clk = s.clk := rfl
@[simp] theorem State.breakChain_tick : (s.breakChain).tick = s.tick := rfl
@[simp] theorem State.breakChain_lines : (s.breakChain).lines = s.lines := rfl
@[simp] theorem State.breakChain_sup : (s.breakChain).sup = s.sup := rfl
@[simp] theorem State.breakChain_safeIn : (s.breakChain).safeIn = s.safeIn := rfl
@[simp] theorem State.breakChain_staging : (s.breakChain).staging = s.staging := rfl
@[simp] theorem State.breakChain_scrub : (s.breakChain).scrub = s.scrub := rfl
@[simp] theorem State.breakChain_chans : (s.breakChain).chans = s.chans := rfl
@[simp] theorem State.breakChain_causes : (s.breakChain).causes = s.causes := rfl
@[simp] theorem State.breakChain_safepat : (s.breakChain).safepat = s.safepat := rfl
@[simp] theorem State.breakChain_outs : (s.breakChain).outs = s.outs := rfl
@[simp] theorem State.breakChain_pins : (s.breakChain).pins = s.pins := rfl
@[simp] theorem State.breakChain_journal : (s.breakChain).journal = s.journal := rfl
@[simp] theorem State.breakChain_arb : (s.breakChain).arb = s.arb := rfl
@[simp] theorem State.breakChain_wdg : (s.breakChain).wdg = s.wdg := rfl
@[simp] theorem State.breakChain_counters : (s.breakChain).counters = s.counters := rfl
@[simp] theorem State.breakChain_rstcause : (s.breakChain).rstcause = s.rstcause := rfl
@[simp] theorem State.breakChain_pending : (s.breakChain).pending = s.pending := rfl

/-! ### `State.finishAction` -/

@[simp] theorem State.finishAction_time (tag : BitVec 6) (code : Byte) (args : Quad) (v : Verdict) (p : Quad) : (s.finishAction tag code args v p).time = s.time := rfl
@[simp] theorem State.finishAction_clk (tag : BitVec 6) (code : Byte) (args : Quad) (v : Verdict) (p : Quad) : (s.finishAction tag code args v p).clk = s.clk := rfl
@[simp] theorem State.finishAction_tick (tag : BitVec 6) (code : Byte) (args : Quad) (v : Verdict) (p : Quad) : (s.finishAction tag code args v p).tick = s.tick := rfl
@[simp] theorem State.finishAction_lines (tag : BitVec 6) (code : Byte) (args : Quad) (v : Verdict) (p : Quad) : (s.finishAction tag code args v p).lines = s.lines := rfl
@[simp] theorem State.finishAction_sup (tag : BitVec 6) (code : Byte) (args : Quad) (v : Verdict) (p : Quad) : (s.finishAction tag code args v p).sup = s.sup := rfl
@[simp] theorem State.finishAction_safeIn (tag : BitVec 6) (code : Byte) (args : Quad) (v : Verdict) (p : Quad) : (s.finishAction tag code args v p).safeIn = s.safeIn := rfl
@[simp] theorem State.finishAction_staging (tag : BitVec 6) (code : Byte) (args : Quad) (v : Verdict) (p : Quad) : (s.finishAction tag code args v p).staging = s.staging := rfl
@[simp] theorem State.finishAction_scrub (tag : BitVec 6) (code : Byte) (args : Quad) (v : Verdict) (p : Quad) : (s.finishAction tag code args v p).scrub = s.scrub := rfl
@[simp] theorem State.finishAction_chans (tag : BitVec 6) (code : Byte) (args : Quad) (v : Verdict) (p : Quad) : (s.finishAction tag code args v p).chans = s.chans := rfl
@[simp] theorem State.finishAction_causes (tag : BitVec 6) (code : Byte) (args : Quad) (v : Verdict) (p : Quad) : (s.finishAction tag code args v p).causes = s.causes := rfl
@[simp] theorem State.finishAction_safepat (tag : BitVec 6) (code : Byte) (args : Quad) (v : Verdict) (p : Quad) : (s.finishAction tag code args v p).safepat = s.safepat := rfl
@[simp] theorem State.finishAction_outs (tag : BitVec 6) (code : Byte) (args : Quad) (v : Verdict) (p : Quad) : (s.finishAction tag code args v p).outs = s.outs := rfl
@[simp] theorem State.finishAction_pins (tag : BitVec 6) (code : Byte) (args : Quad) (v : Verdict) (p : Quad) : (s.finishAction tag code args v p).pins = s.pins := rfl
@[simp] theorem State.finishAction_journal (tag : BitVec 6) (code : Byte) (args : Quad) (v : Verdict) (p : Quad) : (s.finishAction tag code args v p).journal = s.journal := rfl
@[simp] theorem State.finishAction_arb (tag : BitVec 6) (code : Byte) (args : Quad) (v : Verdict) (p : Quad) : (s.finishAction tag code args v p).arb = s.arb := rfl
@[simp] theorem State.finishAction_wdg (tag : BitVec 6) (code : Byte) (args : Quad) (v : Verdict) (p : Quad) : (s.finishAction tag code args v p).wdg = s.wdg := rfl
@[simp] theorem State.finishAction_counters (tag : BitVec 6) (code : Byte) (args : Quad) (v : Verdict) (p : Quad) : (s.finishAction tag code args v p).counters = s.counters := rfl
@[simp] theorem State.finishAction_rstcause (tag : BitVec 6) (code : Byte) (args : Quad) (v : Verdict) (p : Quad) : (s.finishAction tag code args v p).rstcause = s.rstcause := rfl
@[simp] theorem State.finishAction_pending (tag : BitVec 6) (code : Byte) (args : Quad) (v : Verdict) (p : Quad) : (s.finishAction tag code args v p).pending = s.pending := rfl

/-! ### `State.countError` -/

@[simp] theorem State.countError_time : (s.countError).time = s.time := rfl
@[simp] theorem State.countError_clk : (s.countError).clk = s.clk := rfl
@[simp] theorem State.countError_tick : (s.countError).tick = s.tick := rfl
@[simp] theorem State.countError_lines : (s.countError).lines = s.lines := rfl
@[simp] theorem State.countError_sup : (s.countError).sup = s.sup := rfl
@[simp] theorem State.countError_safeIn : (s.countError).safeIn = s.safeIn := rfl
@[simp] theorem State.countError_staging : (s.countError).staging = s.staging := rfl
@[simp] theorem State.countError_scrub : (s.countError).scrub = s.scrub := rfl
@[simp] theorem State.countError_chans : (s.countError).chans = s.chans := rfl
@[simp] theorem State.countError_causes : (s.countError).causes = s.causes := rfl
@[simp] theorem State.countError_safepat : (s.countError).safepat = s.safepat := rfl
@[simp] theorem State.countError_outs : (s.countError).outs = s.outs := rfl
@[simp] theorem State.countError_pins : (s.countError).pins = s.pins := rfl
@[simp] theorem State.countError_journal : (s.countError).journal = s.journal := rfl
@[simp] theorem State.countError_arb : (s.countError).arb = s.arb := rfl
@[simp] theorem State.countError_wdg : (s.countError).wdg = s.wdg := rfl
@[simp] theorem State.countError_link : (s.countError).link = s.link := rfl
@[simp] theorem State.countError_rstcause : (s.countError).rstcause = s.rstcause := rfl
@[simp] theorem State.countError_pending : (s.countError).pending = s.pending := rfl

/-! ### `State.countCancel` -/

@[simp] theorem State.countCancel_time : (s.countCancel).time = s.time := rfl
@[simp] theorem State.countCancel_clk : (s.countCancel).clk = s.clk := rfl
@[simp] theorem State.countCancel_tick : (s.countCancel).tick = s.tick := rfl
@[simp] theorem State.countCancel_lines : (s.countCancel).lines = s.lines := rfl
@[simp] theorem State.countCancel_sup : (s.countCancel).sup = s.sup := rfl
@[simp] theorem State.countCancel_safeIn : (s.countCancel).safeIn = s.safeIn := rfl
@[simp] theorem State.countCancel_staging : (s.countCancel).staging = s.staging := rfl
@[simp] theorem State.countCancel_scrub : (s.countCancel).scrub = s.scrub := rfl
@[simp] theorem State.countCancel_chans : (s.countCancel).chans = s.chans := rfl
@[simp] theorem State.countCancel_causes : (s.countCancel).causes = s.causes := rfl
@[simp] theorem State.countCancel_safepat : (s.countCancel).safepat = s.safepat := rfl
@[simp] theorem State.countCancel_outs : (s.countCancel).outs = s.outs := rfl
@[simp] theorem State.countCancel_pins : (s.countCancel).pins = s.pins := rfl
@[simp] theorem State.countCancel_journal : (s.countCancel).journal = s.journal := rfl
@[simp] theorem State.countCancel_arb : (s.countCancel).arb = s.arb := rfl
@[simp] theorem State.countCancel_wdg : (s.countCancel).wdg = s.wdg := rfl
@[simp] theorem State.countCancel_link : (s.countCancel).link = s.link := rfl
@[simp] theorem State.countCancel_rstcause : (s.countCancel).rstcause = s.rstcause := rfl
@[simp] theorem State.countCancel_pending : (s.countCancel).pending = s.pending := rfl

/-! ### `State.countSpurious` -/

@[simp] theorem State.countSpurious_time : (s.countSpurious).time = s.time := rfl
@[simp] theorem State.countSpurious_clk : (s.countSpurious).clk = s.clk := rfl
@[simp] theorem State.countSpurious_tick : (s.countSpurious).tick = s.tick := rfl
@[simp] theorem State.countSpurious_lines : (s.countSpurious).lines = s.lines := rfl
@[simp] theorem State.countSpurious_sup : (s.countSpurious).sup = s.sup := rfl
@[simp] theorem State.countSpurious_safeIn : (s.countSpurious).safeIn = s.safeIn := rfl
@[simp] theorem State.countSpurious_staging : (s.countSpurious).staging = s.staging := rfl
@[simp] theorem State.countSpurious_scrub : (s.countSpurious).scrub = s.scrub := rfl
@[simp] theorem State.countSpurious_chans : (s.countSpurious).chans = s.chans := rfl
@[simp] theorem State.countSpurious_causes : (s.countSpurious).causes = s.causes := rfl
@[simp] theorem State.countSpurious_safepat : (s.countSpurious).safepat = s.safepat := rfl
@[simp] theorem State.countSpurious_outs : (s.countSpurious).outs = s.outs := rfl
@[simp] theorem State.countSpurious_pins : (s.countSpurious).pins = s.pins := rfl
@[simp] theorem State.countSpurious_journal : (s.countSpurious).journal = s.journal := rfl
@[simp] theorem State.countSpurious_arb : (s.countSpurious).arb = s.arb := rfl
@[simp] theorem State.countSpurious_wdg : (s.countSpurious).wdg = s.wdg := rfl
@[simp] theorem State.countSpurious_link : (s.countSpurious).link = s.link := rfl
@[simp] theorem State.countSpurious_rstcause : (s.countSpurious).rstcause = s.rstcause := rfl
@[simp] theorem State.countSpurious_pending : (s.countSpurious).pending = s.pending := rfl

/-! ### `State.setLocked` -/

@[simp] theorem State.setLocked_time (b : Bool) : (s.setLocked b).time = s.time := rfl
@[simp] theorem State.setLocked_clk (b : Bool) : (s.setLocked b).clk = s.clk := rfl
@[simp] theorem State.setLocked_tick (b : Bool) : (s.setLocked b).tick = s.tick := rfl
@[simp] theorem State.setLocked_lines (b : Bool) : (s.setLocked b).lines = s.lines := rfl
@[simp] theorem State.setLocked_sup (b : Bool) : (s.setLocked b).sup = s.sup := rfl
@[simp] theorem State.setLocked_safeIn (b : Bool) : (s.setLocked b).safeIn = s.safeIn := rfl
@[simp] theorem State.setLocked_scrub (b : Bool) : (s.setLocked b).scrub = s.scrub := rfl
@[simp] theorem State.setLocked_chans (b : Bool) : (s.setLocked b).chans = s.chans := rfl
@[simp] theorem State.setLocked_causes (b : Bool) : (s.setLocked b).causes = s.causes := rfl
@[simp] theorem State.setLocked_safepat (b : Bool) : (s.setLocked b).safepat = s.safepat := rfl
@[simp] theorem State.setLocked_outs (b : Bool) : (s.setLocked b).outs = s.outs := rfl
@[simp] theorem State.setLocked_pins (b : Bool) : (s.setLocked b).pins = s.pins := rfl
@[simp] theorem State.setLocked_journal (b : Bool) : (s.setLocked b).journal = s.journal := rfl
@[simp] theorem State.setLocked_arb (b : Bool) : (s.setLocked b).arb = s.arb := rfl
@[simp] theorem State.setLocked_wdg (b : Bool) : (s.setLocked b).wdg = s.wdg := rfl
@[simp] theorem State.setLocked_link (b : Bool) : (s.setLocked b).link = s.link := rfl
@[simp] theorem State.setLocked_counters (b : Bool) : (s.setLocked b).counters = s.counters := rfl
@[simp] theorem State.setLocked_rstcause (b : Bool) : (s.setLocked b).rstcause = s.rstcause := rfl
@[simp] theorem State.setLocked_pending (b : Bool) : (s.setLocked b).pending = s.pending := rfl

/-! ### `State.holdoffDown` -/

@[simp] theorem State.holdoffDown_time : (s.holdoffDown).time = s.time := rfl
@[simp] theorem State.holdoffDown_clk : (s.holdoffDown).clk = s.clk := rfl
@[simp] theorem State.holdoffDown_tick : (s.holdoffDown).tick = s.tick := rfl
@[simp] theorem State.holdoffDown_lines : (s.holdoffDown).lines = s.lines := rfl
@[simp] theorem State.holdoffDown_sup : (s.holdoffDown).sup = s.sup := rfl
@[simp] theorem State.holdoffDown_safeIn : (s.holdoffDown).safeIn = s.safeIn := rfl
@[simp] theorem State.holdoffDown_staging : (s.holdoffDown).staging = s.staging := rfl
@[simp] theorem State.holdoffDown_scrub : (s.holdoffDown).scrub = s.scrub := rfl
@[simp] theorem State.holdoffDown_chans : (s.holdoffDown).chans = s.chans := rfl
@[simp] theorem State.holdoffDown_causes : (s.holdoffDown).causes = s.causes := rfl
@[simp] theorem State.holdoffDown_safepat : (s.holdoffDown).safepat = s.safepat := rfl
@[simp] theorem State.holdoffDown_outs : (s.holdoffDown).outs = s.outs := rfl
@[simp] theorem State.holdoffDown_pins : (s.holdoffDown).pins = s.pins := rfl
@[simp] theorem State.holdoffDown_journal : (s.holdoffDown).journal = s.journal := rfl
@[simp] theorem State.holdoffDown_wdg : (s.holdoffDown).wdg = s.wdg := rfl
@[simp] theorem State.holdoffDown_link : (s.holdoffDown).link = s.link := rfl
@[simp] theorem State.holdoffDown_counters : (s.holdoffDown).counters = s.counters := rfl
@[simp] theorem State.holdoffDown_rstcause : (s.holdoffDown).rstcause = s.rstcause := rfl
@[simp] theorem State.holdoffDown_pending : (s.holdoffDown).pending = s.pending := rfl

/-! ### `State.endTick` -/

@[simp] theorem State.endTick_lines (inp : Samples) : (s.endTick inp).lines = s.lines := rfl
@[simp] theorem State.endTick_sup (inp : Samples) : (s.endTick inp).sup = s.sup := rfl
@[simp] theorem State.endTick_safeIn (inp : Samples) : (s.endTick inp).safeIn = s.safeIn := rfl
@[simp] theorem State.endTick_staging (inp : Samples) : (s.endTick inp).staging = s.staging := rfl
@[simp] theorem State.endTick_scrub (inp : Samples) : (s.endTick inp).scrub = s.scrub := rfl
@[simp] theorem State.endTick_causes (inp : Samples) : (s.endTick inp).causes = s.causes := rfl
@[simp] theorem State.endTick_safepat (inp : Samples) : (s.endTick inp).safepat = s.safepat := rfl
@[simp] theorem State.endTick_outs (inp : Samples) : (s.endTick inp).outs = s.outs := rfl
@[simp] theorem State.endTick_pins (inp : Samples) : (s.endTick inp).pins = s.pins := rfl
@[simp] theorem State.endTick_journal (inp : Samples) : (s.endTick inp).journal = s.journal := rfl
@[simp] theorem State.endTick_arb (inp : Samples) : (s.endTick inp).arb = s.arb := rfl
@[simp] theorem State.endTick_wdg (inp : Samples) : (s.endTick inp).wdg = s.wdg := rfl
@[simp] theorem State.endTick_link (inp : Samples) : (s.endTick inp).link = s.link := rfl
@[simp] theorem State.endTick_counters (inp : Samples) : (s.endTick inp).counters = s.counters := rfl
@[simp] theorem State.endTick_rstcause (inp : Samples) : (s.endTick inp).rstcause = s.rstcause := rfl
@[simp] theorem State.endTick_pending (inp : Samples) : (s.endTick inp).pending = s.pending := rfl

/-! ### `State.keepMarks` -/

@[simp] theorem State.keepMarks_clk (wm : BitVec 4) : (s.keepMarks wm).clk = s.clk := rfl
@[simp] theorem State.keepMarks_tick (wm : BitVec 4) : (s.keepMarks wm).tick = s.tick := rfl
@[simp] theorem State.keepMarks_lines (wm : BitVec 4) : (s.keepMarks wm).lines = s.lines := rfl
@[simp] theorem State.keepMarks_sup (wm : BitVec 4) : (s.keepMarks wm).sup = s.sup := rfl
@[simp] theorem State.keepMarks_safeIn (wm : BitVec 4) : (s.keepMarks wm).safeIn = s.safeIn := rfl
@[simp] theorem State.keepMarks_staging (wm : BitVec 4) : (s.keepMarks wm).staging = s.staging := rfl
@[simp] theorem State.keepMarks_scrub (wm : BitVec 4) : (s.keepMarks wm).scrub = s.scrub := rfl
@[simp] theorem State.keepMarks_chans (wm : BitVec 4) : (s.keepMarks wm).chans = s.chans := rfl
@[simp] theorem State.keepMarks_causes (wm : BitVec 4) : (s.keepMarks wm).causes = s.causes := rfl
@[simp] theorem State.keepMarks_safepat (wm : BitVec 4) : (s.keepMarks wm).safepat = s.safepat := rfl
@[simp] theorem State.keepMarks_outs (wm : BitVec 4) : (s.keepMarks wm).outs = s.outs := rfl
@[simp] theorem State.keepMarks_pins (wm : BitVec 4) : (s.keepMarks wm).pins = s.pins := rfl
@[simp] theorem State.keepMarks_journal (wm : BitVec 4) : (s.keepMarks wm).journal = s.journal := rfl
@[simp] theorem State.keepMarks_arb (wm : BitVec 4) : (s.keepMarks wm).arb = s.arb := rfl
@[simp] theorem State.keepMarks_wdg (wm : BitVec 4) : (s.keepMarks wm).wdg = s.wdg := rfl
@[simp] theorem State.keepMarks_link (wm : BitVec 4) : (s.keepMarks wm).link = s.link := rfl
@[simp] theorem State.keepMarks_counters (wm : BitVec 4) : (s.keepMarks wm).counters = s.counters := rfl
@[simp] theorem State.keepMarks_rstcause (wm : BitVec 4) : (s.keepMarks wm).rstcause = s.rstcause := rfl
@[simp] theorem State.keepMarks_pending (wm : BitVec 4) : (s.keepMarks wm).pending = s.pending := rfl

/-! ### `State.noWaiting` -/

@[simp] theorem State.noWaiting_time : (s.noWaiting).time = s.time := rfl
@[simp] theorem State.noWaiting_clk : (s.noWaiting).clk = s.clk := rfl
@[simp] theorem State.noWaiting_tick : (s.noWaiting).tick = s.tick := rfl
@[simp] theorem State.noWaiting_lines : (s.noWaiting).lines = s.lines := rfl
@[simp] theorem State.noWaiting_sup : (s.noWaiting).sup = s.sup := rfl
@[simp] theorem State.noWaiting_safeIn : (s.noWaiting).safeIn = s.safeIn := rfl
@[simp] theorem State.noWaiting_staging : (s.noWaiting).staging = s.staging := rfl
@[simp] theorem State.noWaiting_scrub : (s.noWaiting).scrub = s.scrub := rfl
@[simp] theorem State.noWaiting_chans : (s.noWaiting).chans = s.chans := rfl
@[simp] theorem State.noWaiting_causes : (s.noWaiting).causes = s.causes := rfl
@[simp] theorem State.noWaiting_safepat : (s.noWaiting).safepat = s.safepat := rfl
@[simp] theorem State.noWaiting_outs : (s.noWaiting).outs = s.outs := rfl
@[simp] theorem State.noWaiting_pins : (s.noWaiting).pins = s.pins := rfl
@[simp] theorem State.noWaiting_journal : (s.noWaiting).journal = s.journal := rfl
@[simp] theorem State.noWaiting_arb : (s.noWaiting).arb = s.arb := rfl
@[simp] theorem State.noWaiting_wdg : (s.noWaiting).wdg = s.wdg := rfl
@[simp] theorem State.noWaiting_counters : (s.noWaiting).counters = s.counters := rfl
@[simp] theorem State.noWaiting_rstcause : (s.noWaiting).rstcause = s.rstcause := rfl
@[simp] theorem State.noWaiting_pending : (s.noWaiting).pending = s.pending := rfl

/-! ### `State.past` -/

@[simp] theorem State.past_time : (s.past).time = s.time := rfl
@[simp] theorem State.past_clk : (s.past).clk = s.clk := rfl
@[simp] theorem State.past_lines : (s.past).lines = s.lines := rfl
@[simp] theorem State.past_sup : (s.past).sup = s.sup := rfl
@[simp] theorem State.past_safeIn : (s.past).safeIn = s.safeIn := rfl
@[simp] theorem State.past_staging : (s.past).staging = s.staging := rfl
@[simp] theorem State.past_scrub : (s.past).scrub = s.scrub := rfl
@[simp] theorem State.past_chans : (s.past).chans = s.chans := rfl
@[simp] theorem State.past_causes : (s.past).causes = s.causes := rfl
@[simp] theorem State.past_safepat : (s.past).safepat = s.safepat := rfl
@[simp] theorem State.past_outs : (s.past).outs = s.outs := rfl
@[simp] theorem State.past_pins : (s.past).pins = s.pins := rfl
@[simp] theorem State.past_journal : (s.past).journal = s.journal := rfl
@[simp] theorem State.past_arb : (s.past).arb = s.arb := rfl
@[simp] theorem State.past_wdg : (s.past).wdg = s.wdg := rfl
@[simp] theorem State.past_link : (s.past).link = s.link := rfl
@[simp] theorem State.past_counters : (s.past).counters = s.counters := rfl
@[simp] theorem State.past_rstcause : (s.past).rstcause = s.rstcause := rfl
@[simp] theorem State.past_pending : (s.past).pending = s.pending := rfl

/-! ### `State.clockEvent` -/

@[simp] theorem State.clockEvent_time (e : ClockEvent) : (s.clockEvent e).time = s.time := rfl
@[simp] theorem State.clockEvent_tick (e : ClockEvent) : (s.clockEvent e).tick = s.tick := rfl
@[simp] theorem State.clockEvent_lines (e : ClockEvent) : (s.clockEvent e).lines = s.lines := rfl
@[simp] theorem State.clockEvent_sup (e : ClockEvent) : (s.clockEvent e).sup = s.sup := rfl
@[simp] theorem State.clockEvent_safeIn (e : ClockEvent) : (s.clockEvent e).safeIn = s.safeIn := rfl
@[simp] theorem State.clockEvent_staging (e : ClockEvent) : (s.clockEvent e).staging = s.staging := rfl
@[simp] theorem State.clockEvent_scrub (e : ClockEvent) : (s.clockEvent e).scrub = s.scrub := rfl
@[simp] theorem State.clockEvent_chans (e : ClockEvent) : (s.clockEvent e).chans = s.chans := rfl
@[simp] theorem State.clockEvent_causes (e : ClockEvent) : (s.clockEvent e).causes = s.causes := rfl
@[simp] theorem State.clockEvent_safepat (e : ClockEvent) : (s.clockEvent e).safepat = s.safepat := rfl
@[simp] theorem State.clockEvent_outs (e : ClockEvent) : (s.clockEvent e).outs = s.outs := rfl
@[simp] theorem State.clockEvent_pins (e : ClockEvent) : (s.clockEvent e).pins = s.pins := rfl
@[simp] theorem State.clockEvent_journal (e : ClockEvent) : (s.clockEvent e).journal = s.journal := rfl
@[simp] theorem State.clockEvent_arb (e : ClockEvent) : (s.clockEvent e).arb = s.arb := rfl
@[simp] theorem State.clockEvent_wdg (e : ClockEvent) : (s.clockEvent e).wdg = s.wdg := rfl
@[simp] theorem State.clockEvent_link (e : ClockEvent) : (s.clockEvent e).link = s.link := rfl
@[simp] theorem State.clockEvent_counters (e : ClockEvent) : (s.clockEvent e).counters = s.counters := rfl
@[simp] theorem State.clockEvent_rstcause (e : ClockEvent) : (s.clockEvent e).rstcause = s.rstcause := rfl
@[simp] theorem State.clockEvent_pending (e : ClockEvent) : (s.clockEvent e).pending = s.pending := rfl

/-! ### `State.fall` -/

@[simp] theorem State.fall_time : (s.fall).time = s.time := rfl
@[simp] theorem State.fall_clk : (s.fall).clk = s.clk := rfl
@[simp] theorem State.fall_tick : (s.fall).tick = s.tick := rfl
@[simp] theorem State.fall_lines : (s.fall).lines = s.lines := rfl
@[simp] theorem State.fall_sup : (s.fall).sup = s.sup := rfl
@[simp] theorem State.fall_safeIn : (s.fall).safeIn = s.safeIn := rfl
@[simp] theorem State.fall_staging : (s.fall).staging = s.staging := rfl
@[simp] theorem State.fall_scrub : (s.fall).scrub = s.scrub := rfl
@[simp] theorem State.fall_chans : (s.fall).chans = s.chans := rfl
@[simp] theorem State.fall_causes : (s.fall).causes = s.causes := rfl
@[simp] theorem State.fall_safepat : (s.fall).safepat = s.safepat := rfl
@[simp] theorem State.fall_outs : (s.fall).outs = s.outs := rfl
@[simp] theorem State.fall_pins : (s.fall).pins = s.pins := rfl
@[simp] theorem State.fall_journal : (s.fall).journal = s.journal := rfl
@[simp] theorem State.fall_arb : (s.fall).arb = s.arb := rfl
@[simp] theorem State.fall_wdg : (s.fall).wdg = s.wdg := rfl
@[simp] theorem State.fall_counters : (s.fall).counters = s.counters := rfl
@[simp] theorem State.fall_rstcause : (s.fall).rstcause = s.rstcause := rfl
@[simp] theorem State.fall_pending : (s.fall).pending = s.pending := rfl

/-! ### `State.withPending` -/

@[simp] theorem State.withPending_time (q : List Instr) : (s.withPending q).time = s.time := rfl
@[simp] theorem State.withPending_clk (q : List Instr) : (s.withPending q).clk = s.clk := rfl
@[simp] theorem State.withPending_tick (q : List Instr) : (s.withPending q).tick = s.tick := rfl
@[simp] theorem State.withPending_lines (q : List Instr) : (s.withPending q).lines = s.lines := rfl
@[simp] theorem State.withPending_sup (q : List Instr) : (s.withPending q).sup = s.sup := rfl
@[simp] theorem State.withPending_safeIn (q : List Instr) : (s.withPending q).safeIn = s.safeIn := rfl
@[simp] theorem State.withPending_staging (q : List Instr) : (s.withPending q).staging = s.staging := rfl
@[simp] theorem State.withPending_scrub (q : List Instr) : (s.withPending q).scrub = s.scrub := rfl
@[simp] theorem State.withPending_chans (q : List Instr) : (s.withPending q).chans = s.chans := rfl
@[simp] theorem State.withPending_causes (q : List Instr) : (s.withPending q).causes = s.causes := rfl
@[simp] theorem State.withPending_safepat (q : List Instr) : (s.withPending q).safepat = s.safepat := rfl
@[simp] theorem State.withPending_outs (q : List Instr) : (s.withPending q).outs = s.outs := rfl
@[simp] theorem State.withPending_pins (q : List Instr) : (s.withPending q).pins = s.pins := rfl
@[simp] theorem State.withPending_journal (q : List Instr) : (s.withPending q).journal = s.journal := rfl
@[simp] theorem State.withPending_arb (q : List Instr) : (s.withPending q).arb = s.arb := rfl
@[simp] theorem State.withPending_wdg (q : List Instr) : (s.withPending q).wdg = s.wdg := rfl
@[simp] theorem State.withPending_link (q : List Instr) : (s.withPending q).link = s.link := rfl
@[simp] theorem State.withPending_counters (q : List Instr) : (s.withPending q).counters = s.counters := rfl
@[simp] theorem State.withPending_rstcause (q : List Instr) : (s.withPending q).rstcause = s.rstcause := rfl

/-! ### Elements -/

@[simp] theorem State.setLine_get (k : LineNo) (l : Line) : (s.setLine k l).lines[k.val] = l := by
  simp [State.setLine]

theorem State.setLine_get_ne {k j : LineNo} (l : Line) (h : j ≠ k) : (s.setLine k l).lines[j.val] = s.lines[j.val] := by
  have : k.val ≠ j.val := fun e => h (Fin.ext e.symm)
  simp [State.setLine, this]

@[simp] theorem State.setChan_get (k : Channel) (c : Chan) : (s.setChan k c).chans[k.val] = c := by
  simp [State.setChan]

theorem State.setChan_get_ne {k j : Channel} (c : Chan) (h : j ≠ k) : (s.setChan k c).chans[j.val] = s.chans[j.val] := by
  have : k.val ≠ j.val := fun e => h (Fin.ext e.symm)
  simp [State.setChan, this]

@[simp] theorem State.setPend_get (src : Source) (p : Option Pend) : (s.setPend src p).arb.pend[src.val] = p := by
  simp [State.setPend]

theorem State.setPend_get_ne {a b : Source} (p : Option Pend) (h : b ≠ a) :
    (s.setPend a p).arb.pend[b.val] = s.arb.pend[b.val] := by
  have : a.val ≠ b.val := fun e => h (Fin.ext e.symm)
  simp [State.setPend, this]

@[simp] theorem State.setPend_sl (src : Source) (p : Option Pend) : (s.setPend src p).arb.sl = s.arb.sl := rfl
@[simp] theorem State.setPend_stack (src : Source) (p : Option Pend) : (s.setPend src p).arb.stack = s.arb.stack := rfl
@[simp] theorem State.setPend_hd (src : Source) (p : Option Pend) : (s.setPend src p).arb.hd = s.arb.hd := rfl
@[simp] theorem State.setPend_nestOff (src : Source) (p : Option Pend) : (s.setPend src p).arb.nestOff = s.arb.nestOff := rfl

@[simp] theorem State.mapChans_get (f : Channel → Chan → Chan) (k : Channel) :
    (s.mapChans f).chans[k.val] = f k s.chans[k.val] := by
  simp [State.mapChans]

@[simp] theorem State.withPending_pending (q : List Instr) : (s.withPending q).pending = q := rfl

@[simp] theorem State.recomputeOutputs_layer (i : Fin 8) : s.recomputeOutputs.outs.layers[i.val] = s.layerNow i := by
  simp [State.recomputeOutputs]

@[simp] theorem State.recomputeOutputs_nSafe : s.recomputeOutputs.outs.nSafe = s.inHold := rfl

@[simp] theorem State.endTick_tick (inp : Samples) : (s.endTick inp).tick = none := rfl
@[simp] theorem State.beginTick_tick (inp : Samples) : (s.beginTick inp).tick = some ⟨inp, tickItems⟩ := rfl

/-! ### The boundary and the beginning of a tick -/

/-- A tick boundary changes the holding word, the READ in flight and the captures that are owed alone (R4, R6). -/
theorem State.snapshot_eq :
    s.snapshot =
      { s with
        time := { s.time with hold := s.snapshot.time.hold }
        link := { s.link with flight := s.snapshot.link.flight, owed := false } } := rfl

/-- The TSTAMP capture at a tick boundary (R6). -/
theorem State.snapshot_hold :
    s.snapshot.time.hold =
      if s.link.owed || s.link.flight.any Flight.owes then s.time.tstamp.extractLsb' 16 16 else s.time.hold := rfl

/-- A tick boundary does not depend on the transactions that wait. -/
theorem State.snapshot_await (j : Option Judged) : (s.await j).snapshot = s.snapshot.await j := by cases j <;> rfl

/-- What a tick boundary leaves as it was. -/
@[simp] theorem State.snapshot_frame :
    s.snapshot.clk = s.clk ∧ s.snapshot.tick = s.tick ∧ s.snapshot.lines = s.lines ∧ s.snapshot.sup = s.sup ∧
    s.snapshot.safeIn = s.safeIn ∧ s.snapshot.staging = s.staging ∧ s.snapshot.scrub = s.scrub ∧
    s.snapshot.chans = s.chans ∧ s.snapshot.causes = s.causes ∧ s.snapshot.safepat = s.safepat ∧
    s.snapshot.outs = s.outs ∧ s.snapshot.pins = s.pins ∧ s.snapshot.journal = s.journal ∧
    s.snapshot.arb = s.arb ∧ s.snapshot.wdg = s.wdg ∧ s.snapshot.counters = s.counters ∧
    s.snapshot.rstcause = s.rstcause ∧ s.snapshot.pending = s.pending := by
  rw [s.snapshot_eq]; simp

/-- The pins stand as a tick samples them (R2). -/
@[simp] theorem State.beginTick_pins (inp : Samples) : (s.beginTick inp).pins = { s.pins with inputs := inp } := by
  simp [State.beginTick]

/-- What the beginning of a tick leaves as it was. -/
@[simp] theorem State.beginTick_frame (inp : Samples) :
    (s.beginTick inp).lines = s.lines ∧ (s.beginTick inp).sup = s.sup ∧ (s.beginTick inp).safeIn = s.safeIn ∧
    (s.beginTick inp).staging = s.staging ∧ (s.beginTick inp).scrub = s.scrub ∧
    (s.beginTick inp).chans = s.chans ∧ (s.beginTick inp).causes = s.causes ∧
    (s.beginTick inp).safepat = s.safepat ∧ (s.beginTick inp).outs = s.outs ∧
    (s.beginTick inp).journal = s.journal ∧ (s.beginTick inp).arb = s.arb ∧ (s.beginTick inp).wdg = s.wdg ∧
    (s.beginTick inp).counters = s.counters ∧ (s.beginTick inp).rstcause = s.rstcause ∧
    (s.beginTick inp).pending = s.pending := by
  simp [State.beginTick]

/-- With no transaction in flight and no capture owed a tick boundary changes nothing. -/
theorem State.snapshot_idle (h : s.link.flight = none) (ho : s.link.owed = false) : s.snapshot = s := by
  have e : { s.link with flight := none, owed := false } = s.link := by rw [← h, ← ho]
  simp [State.snapshot, State.captureHold, h, ho, e]

/-- The beginning of a tick with no transaction in flight and no capture owed (R2, R5, R13). -/
theorem State.beginTick_idle (inp : Samples) (h : s.link.flight = none) (ho : s.link.owed = false) :
    s.beginTick inp = { s with
      clk := s.clk.period
      time := { s.time with tstamp := s.time.tstamp + 1, supLow := inp.supLow, safeInPin := inp.safeIn }
      pins := { s.pins with inputs := inp }
      tick := some ⟨inp, tickItems⟩ } := by simp [State.beginTick, State.snapshot_idle s h ho]

end Sys2Proof.Machine
end

