-- ==== Sys2Proof/Laws/Frames.lean ====
section
/-! SUPPORT. What each shared operation of the tick and of the actions leaves as it was: one lemma per operation, a conjunction
over the untouched blocks, which simp uses part by part. -/

namespace Sys2Proof.Machine

variable (s : State)

@[simp] theorem State.offer_frame (b : RecBody) :
    (s.offer b).1.time = s.time ∧ (s.offer b).1.clk = s.clk ∧ (s.offer b).1.tick = s.tick ∧
    (s.offer b).1.lines = s.lines ∧ (s.offer b).1.sup = s.sup ∧ (s.offer b).1.safeIn = s.safeIn ∧
    (s.offer b).1.staging = s.staging ∧ (s.offer b).1.scrub = s.scrub ∧ (s.offer b).1.chans = s.chans ∧
    (s.offer b).1.causes = s.causes ∧ (s.offer b).1.safepat = s.safepat ∧ (s.offer b).1.outs = s.outs ∧
    (s.offer b).1.pins = s.pins ∧ (s.offer b).1.wdg = s.wdg ∧ (s.offer b).1.link = s.link ∧
    (s.offer b).1.counters = s.counters ∧ (s.offer b).1.rstcause = s.rstcause ∧ (s.offer b).1.pending = s.pending := by
  unfold State.offer State.occur; dsimp only; (repeat' split) <;> simp [State.setPend]

@[simp] theorem State.occur_frame (src : Source) (q : Option Word) :
    (s.occur src q).time = s.time ∧ (s.occur src q).clk = s.clk ∧ (s.occur src q).tick = s.tick ∧
    (s.occur src q).lines = s.lines ∧ (s.occur src q).sup = s.sup ∧ (s.occur src q).safeIn = s.safeIn ∧
    (s.occur src q).staging = s.staging ∧ (s.occur src q).scrub = s.scrub ∧ (s.occur src q).chans = s.chans ∧
    (s.occur src q).causes = s.causes ∧ (s.occur src q).safepat = s.safepat ∧ (s.occur src q).outs = s.outs ∧
    (s.occur src q).pins = s.pins ∧ (s.occur src q).journal = s.journal ∧ (s.occur src q).wdg = s.wdg ∧
    (s.occur src q).link = s.link ∧ (s.occur src q).counters = s.counters ∧ (s.occur src q).rstcause = s.rstcause ∧
    (s.occur src q).pending = s.pending := by
  unfold State.occur; split <;> simp

@[simp] theorem State.record_frame (b : RecBody) :
    (s.record b).time = s.time ∧ (s.record b).clk = s.clk ∧ (s.record b).tick = s.tick ∧
    (s.record b).lines = s.lines ∧ (s.record b).sup = s.sup ∧ (s.record b).safeIn = s.safeIn ∧
    (s.record b).staging = s.staging ∧ (s.record b).scrub = s.scrub ∧ (s.record b).chans = s.chans ∧
    (s.record b).causes = s.causes ∧ (s.record b).safepat = s.safepat ∧ (s.record b).outs = s.outs ∧
    (s.record b).pins = s.pins ∧ (s.record b).wdg = s.wdg ∧ (s.record b).link = s.link ∧
    (s.record b).counters = s.counters ∧ (s.record b).rstcause = s.rstcause ∧ (s.record b).pending = s.pending := by
  unfold State.record State.offer; dsimp only; split <;> simp

@[simp] theorem State.addCause_frame (c : Cause) (src : Option Source) :
    (s.addCause c src).time = s.time ∧ (s.addCause c src).clk = s.clk ∧ (s.addCause c src).tick = s.tick ∧
    (s.addCause c src).lines = s.lines ∧ (s.addCause c src).sup = s.sup ∧ (s.addCause c src).safeIn = s.safeIn ∧
    (s.addCause c src).staging = s.staging ∧ (s.addCause c src).scrub = s.scrub ∧
    (s.addCause c src).safepat = s.safepat ∧ (s.addCause c src).outs = s.outs ∧ (s.addCause c src).pins = s.pins ∧
    (s.addCause c src).wdg = s.wdg ∧ (s.addCause c src).link = s.link ∧ (s.addCause c src).counters = s.counters ∧
    (s.addCause c src).rstcause = s.rstcause ∧ (s.addCause c src).pending = s.pending := by
  unfold State.addCause; dsimp only; (repeat' split) <;> simp

@[simp] theorem State.asserted_frame (src : Source) (x : Contribution) (b : Bool) :
    (s.asserted src x b).time = s.time ∧ (s.asserted src x b).clk = s.clk ∧ (s.asserted src x b).tick = s.tick ∧
    (s.asserted src x b).lines = s.lines ∧ (s.asserted src x b).sup = s.sup ∧
    (s.asserted src x b).safeIn = s.safeIn ∧ (s.asserted src x b).staging = s.staging ∧
    (s.asserted src x b).scrub = s.scrub ∧ (s.asserted src x b).safepat = s.safepat ∧
    (s.asserted src x b).outs = s.outs ∧ (s.asserted src x b).pins = s.pins ∧ (s.asserted src x b).wdg = s.wdg ∧
    (s.asserted src x b).link = s.link ∧ (s.asserted src x b).counters = s.counters ∧
    (s.asserted src x b).rstcause = s.rstcause ∧ (s.asserted src x b).pending = s.pending := by
  unfold State.asserted; dsimp only; (repeat' split) <;> simp_all

@[simp] theorem State.dropped_frame (src : Source) (x : Contribution) (a b : Bool) :
    (s.dropped src x a b).time = s.time ∧ (s.dropped src x a b).clk = s.clk ∧ (s.dropped src x a b).tick = s.tick ∧
    (s.dropped src x a b).lines = s.lines ∧ (s.dropped src x a b).sup = s.sup ∧
    (s.dropped src x a b).safeIn = s.safeIn ∧ (s.dropped src x a b).staging = s.staging ∧
    (s.dropped src x a b).scrub = s.scrub ∧ (s.dropped src x a b).chans = s.chans ∧
    (s.dropped src x a b).causes = s.causes ∧ (s.dropped src x a b).safepat = s.safepat ∧
    (s.dropped src x a b).outs = s.outs ∧ (s.dropped src x a b).pins = s.pins ∧ (s.dropped src x a b).wdg = s.wdg ∧
    (s.dropped src x a b).link = s.link ∧ (s.dropped src x a b).counters = s.counters ∧
    (s.dropped src x a b).rstcause = s.rstcause ∧ (s.dropped src x a b).pending = s.pending := by
  unfold State.dropped; split <;> simp

@[simp] theorem State.clearHard_frame (src : Source) :
    (s.clearHard src).time = s.time ∧ (s.clearHard src).clk = s.clk ∧ (s.clearHard src).tick = s.tick ∧
    (s.clearHard src).lines = s.lines ∧ (s.clearHard src).sup = s.sup ∧ (s.clearHard src).safeIn = s.safeIn ∧
    (s.clearHard src).staging = s.staging ∧ (s.clearHard src).scrub = s.scrub ∧ (s.clearHard src).chans = s.chans ∧
    (s.clearHard src).causes = s.causes ∧ (s.clearHard src).safepat = s.safepat ∧ (s.clearHard src).outs = s.outs ∧
    (s.clearHard src).pins = s.pins ∧ (s.clearHard src).wdg = s.wdg ∧ (s.clearHard src).link = s.link ∧
    (s.clearHard src).counters = s.counters ∧ (s.clearHard src).rstcause = s.rstcause ∧
    (s.clearHard src).pending = s.pending := by
  simp [State.clearHard]

@[simp] theorem State.assertLine_frame (k : LineNo) :
    (s.assertLine k).time = s.time ∧ (s.assertLine k).clk = s.clk ∧ (s.assertLine k).tick = s.tick ∧
    (s.assertLine k).sup = s.sup ∧ (s.assertLine k).safeIn = s.safeIn ∧ (s.assertLine k).staging = s.staging ∧
    (s.assertLine k).scrub = s.scrub ∧ (s.assertLine k).safepat = s.safepat ∧ (s.assertLine k).outs = s.outs ∧
    (s.assertLine k).pins = s.pins ∧ (s.assertLine k).wdg = s.wdg ∧ (s.assertLine k).link = s.link ∧
    (s.assertLine k).counters = s.counters ∧ (s.assertLine k).rstcause = s.rstcause ∧
    (s.assertLine k).pending = s.pending := by
  simp [State.assertLine]

@[simp] theorem State.dropLine_frame (k : LineNo) (a b : Bool) :
    (s.dropLine k a b).time = s.time ∧ (s.dropLine k a b).clk = s.clk ∧ (s.dropLine k a b).tick = s.tick ∧
    (s.dropLine k a b).sup = s.sup ∧ (s.dropLine k a b).safeIn = s.safeIn ∧ (s.dropLine k a b).staging = s.staging ∧
    (s.dropLine k a b).scrub = s.scrub ∧ (s.dropLine k a b).chans = s.chans ∧ (s.dropLine k a b).causes = s.causes ∧
    (s.dropLine k a b).safepat = s.safepat ∧ (s.dropLine k a b).outs = s.outs ∧ (s.dropLine k a b).pins = s.pins ∧
    (s.dropLine k a b).wdg = s.wdg ∧ (s.dropLine k a b).link = s.link ∧ (s.dropLine k a b).counters = s.counters ∧
    (s.dropLine k a b).rstcause = s.rstcause ∧ (s.dropLine k a b).pending = s.pending := by
  unfold State.dropLine; dsimp only; split <;> simp

@[simp] theorem State.lineRaw_frame (k : LineNo) (a : Bool) :
    (s.lineRaw k a).time = s.time ∧ (s.lineRaw k a).clk = s.clk ∧ (s.lineRaw k a).tick = s.tick ∧
    (s.lineRaw k a).sup = s.sup ∧ (s.lineRaw k a).safeIn = s.safeIn ∧ (s.lineRaw k a).staging = s.staging ∧
    (s.lineRaw k a).scrub = s.scrub ∧ (s.lineRaw k a).safepat = s.safepat ∧ (s.lineRaw k a).outs = s.outs ∧
    (s.lineRaw k a).pins = s.pins ∧ (s.lineRaw k a).wdg = s.wdg ∧ (s.lineRaw k a).link = s.link ∧
    (s.lineRaw k a).counters = s.counters ∧ (s.lineRaw k a).rstcause = s.rstcause ∧
    (s.lineRaw k a).pending = s.pending := by
  unfold State.lineRaw; dsimp only; split <;> simp

@[simp] theorem State.writeLineMode_frame (k : LineNo) (w : Word) :
    (s.writeLineMode k w).time = s.time ∧ (s.writeLineMode k w).clk = s.clk ∧ (s.writeLineMode k w).tick = s.tick ∧
    (s.writeLineMode k w).sup = s.sup ∧ (s.writeLineMode k w).safeIn = s.safeIn ∧
    (s.writeLineMode k w).staging = s.staging ∧ (s.writeLineMode k w).scrub = s.scrub ∧
    (s.writeLineMode k w).chans = s.chans ∧ (s.writeLineMode k w).causes = s.causes ∧
    (s.writeLineMode k w).safepat = s.safepat ∧ (s.writeLineMode k w).outs = s.outs ∧
    (s.writeLineMode k w).pins = s.pins ∧ (s.writeLineMode k w).wdg = s.wdg ∧ (s.writeLineMode k w).link = s.link ∧
    (s.writeLineMode k w).counters = s.counters ∧ (s.writeLineMode k w).rstcause = s.rstcause ∧
    (s.writeLineMode k w).pending = s.pending := by
  unfold State.writeLineMode; dsimp only; (repeat' split) <;> simp

@[simp] theorem State.writeLineFlt_frame (k : LineNo) (w : Word) :
    (s.writeLineFlt k w).time = s.time ∧ (s.writeLineFlt k w).clk = s.clk ∧ (s.writeLineFlt k w).tick = s.tick ∧
    (s.writeLineFlt k w).sup = s.sup ∧ (s.writeLineFlt k w).safeIn = s.safeIn ∧
    (s.writeLineFlt k w).staging = s.staging ∧ (s.writeLineFlt k w).scrub = s.scrub ∧
    (s.writeLineFlt k w).chans = s.chans ∧ (s.writeLineFlt k w).causes = s.causes ∧
    (s.writeLineFlt k w).safepat = s.safepat ∧ (s.writeLineFlt k w).outs = s.outs ∧
    (s.writeLineFlt k w).pins = s.pins ∧ (s.writeLineFlt k w).journal = s.journal ∧
    (s.writeLineFlt k w).arb = s.arb ∧ (s.writeLineFlt k w).wdg = s.wdg ∧ (s.writeLineFlt k w).link = s.link ∧
    (s.writeLineFlt k w).counters = s.counters ∧ (s.writeLineFlt k w).rstcause = s.rstcause ∧
    (s.writeLineFlt k w).pending = s.pending := by
  simp [State.writeLineFlt, State.setLine]

@[simp] theorem State.supItem_frame (a : Bool) :
    (s.supItem a).time = s.time ∧ (s.supItem a).clk = s.clk ∧ (s.supItem a).tick = s.tick ∧
    (s.supItem a).lines = s.lines ∧ (s.supItem a).safeIn = s.safeIn ∧ (s.supItem a).staging = s.staging ∧
    (s.supItem a).scrub = s.scrub ∧ (s.supItem a).safepat = s.safepat ∧ (s.supItem a).outs = s.outs ∧
    (s.supItem a).pins = s.pins ∧ (s.supItem a).wdg = s.wdg ∧ (s.supItem a).link = s.link ∧
    (s.supItem a).counters = s.counters ∧ (s.supItem a).rstcause = s.rstcause ∧ (s.supItem a).pending = s.pending := by
  unfold State.supItem; split <;> simp [State.assertSup, State.clearSup]; split <;> simp

@[simp] theorem State.safeInItem_frame (a : Bool) :
    (s.safeInItem a).time = s.time ∧ (s.safeInItem a).clk = s.clk ∧ (s.safeInItem a).tick = s.tick ∧
    (s.safeInItem a).lines = s.lines ∧ (s.safeInItem a).sup = s.sup ∧ (s.safeInItem a).staging = s.staging ∧
    (s.safeInItem a).scrub = s.scrub ∧ (s.safeInItem a).safepat = s.safepat ∧ (s.safeInItem a).outs = s.outs ∧
    (s.safeInItem a).pins = s.pins ∧ (s.safeInItem a).wdg = s.wdg ∧ (s.safeInItem a).link = s.link ∧
    (s.safeInItem a).counters = s.counters ∧ (s.safeInItem a).rstcause = s.rstcause ∧
    (s.safeInItem a).pending = s.pending := by
  unfold State.safeInItem; split <;> simp [State.activateSafeIn]

@[simp] theorem State.recordRelease_frame (k : Channel) (n : Byte) :
    (s.recordRelease k n).time = s.time ∧ (s.recordRelease k n).clk = s.clk ∧ (s.recordRelease k n).tick = s.tick ∧
    (s.recordRelease k n).lines = s.lines ∧ (s.recordRelease k n).sup = s.sup ∧
    (s.recordRelease k n).safeIn = s.safeIn ∧ (s.recordRelease k n).staging = s.staging ∧
    (s.recordRelease k n).scrub = s.scrub ∧ (s.recordRelease k n).chans = s.chans ∧
    (s.recordRelease k n).causes = s.causes ∧ (s.recordRelease k n).safepat = s.safepat ∧
    (s.recordRelease k n).outs = s.outs ∧ (s.recordRelease k n).pins = s.pins ∧ (s.recordRelease k n).wdg = s.wdg ∧
    (s.recordRelease k n).link = s.link ∧ (s.recordRelease k n).counters = s.counters ∧
    (s.recordRelease k n).rstcause = s.rstcause ∧ (s.recordRelease k n).pending = s.pending := by
  unfold State.recordRelease; split <;> simp

@[simp] theorem State.escalate_frame (k : Channel) (why : EscReason) :
    (s.escalate k why).time = s.time ∧ (s.escalate k why).clk = s.clk ∧ (s.escalate k why).tick = s.tick ∧
    (s.escalate k why).lines = s.lines ∧ (s.escalate k why).sup = s.sup ∧ (s.escalate k why).safeIn = s.safeIn ∧
    (s.escalate k why).staging = s.staging ∧ (s.escalate k why).scrub = s.scrub ∧
    (s.escalate k why).causes = s.causes ∧ (s.escalate k why).safepat = s.safepat ∧
    (s.escalate k why).outs = s.outs ∧ (s.escalate k why).pins = s.pins ∧ (s.escalate k why).wdg = s.wdg ∧
    (s.escalate k why).link = s.link ∧ (s.escalate k why).counters = s.counters ∧
    (s.escalate k why).rstcause = s.rstcause ∧ (s.escalate k why).pending = s.pending := by
  simp [State.escalate]

@[simp] theorem State.markCycle_frame (k : Channel) :
    (s.markCycle k).time = s.time ∧ (s.markCycle k).clk = s.clk ∧ (s.markCycle k).tick = s.tick ∧
    (s.markCycle k).lines = s.lines ∧ (s.markCycle k).sup = s.sup ∧ (s.markCycle k).safeIn = s.safeIn ∧
    (s.markCycle k).staging = s.staging ∧ (s.markCycle k).scrub = s.scrub ∧ (s.markCycle k).causes = s.causes ∧
    (s.markCycle k).safepat = s.safepat ∧ (s.markCycle k).outs = s.outs ∧ (s.markCycle k).pins = s.pins ∧
    (s.markCycle k).wdg = s.wdg ∧ (s.markCycle k).link = s.link ∧ (s.markCycle k).counters = s.counters ∧
    (s.markCycle k).rstcause = s.rstcause ∧ (s.markCycle k).pending = s.pending := by
  unfold State.markCycle; dsimp only; (repeat' split) <;> simp

@[simp] theorem State.markClearing_frame (k : Channel) :
    (s.markClearing k).time = s.time ∧ (s.markClearing k).clk = s.clk ∧ (s.markClearing k).tick = s.tick ∧
    (s.markClearing k).lines = s.lines ∧ (s.markClearing k).sup = s.sup ∧ (s.markClearing k).safeIn = s.safeIn ∧
    (s.markClearing k).staging = s.staging ∧ (s.markClearing k).scrub = s.scrub ∧
    (s.markClearing k).causes = s.causes ∧ (s.markClearing k).safepat = s.safepat ∧
    (s.markClearing k).outs = s.outs ∧ (s.markClearing k).pins = s.pins ∧ (s.markClearing k).wdg = s.wdg ∧
    (s.markClearing k).link = s.link ∧ (s.markClearing k).counters = s.counters ∧
    (s.markClearing k).rstcause = s.rstcause ∧ (s.markClearing k).pending = s.pending := by
  simp [State.markClearing]

@[simp] theorem State.markChan_frame (k : Channel) :
    (s.markChan k).time = s.time ∧ (s.markChan k).clk = s.clk ∧ (s.markChan k).tick = s.tick ∧
    (s.markChan k).lines = s.lines ∧ (s.markChan k).sup = s.sup ∧ (s.markChan k).safeIn = s.safeIn ∧
    (s.markChan k).staging = s.staging ∧ (s.markChan k).scrub = s.scrub ∧ (s.markChan k).causes = s.causes ∧
    (s.markChan k).safepat = s.safepat ∧ (s.markChan k).outs = s.outs ∧ (s.markChan k).pins = s.pins ∧
    (s.markChan k).wdg = s.wdg ∧ (s.markChan k).link = s.link ∧ (s.markChan k).counters = s.counters ∧
    (s.markChan k).rstcause = s.rstcause ∧ (s.markChan k).pending = s.pending := by
  unfold State.markChan; dsimp only; split <;> simp

@[simp] theorem State.starveChan_frame (k : Channel) :
    (s.starveChan k).time = s.time ∧ (s.starveChan k).clk = s.clk ∧ (s.starveChan k).tick = s.tick ∧
    (s.starveChan k).lines = s.lines ∧ (s.starveChan k).sup = s.sup ∧ (s.starveChan k).safeIn = s.safeIn ∧
    (s.starveChan k).staging = s.staging ∧ (s.starveChan k).scrub = s.scrub ∧ (s.starveChan k).causes = s.causes ∧
    (s.starveChan k).safepat = s.safepat ∧ (s.starveChan k).outs = s.outs ∧ (s.starveChan k).pins = s.pins ∧
    (s.starveChan k).wdg = s.wdg ∧ (s.starveChan k).link = s.link ∧ (s.starveChan k).counters = s.counters ∧
    (s.starveChan k).rstcause = s.rstcause ∧ (s.starveChan k).pending = s.pending := by
  unfold State.starveChan; dsimp only; (repeat' split) <;> simp

@[simp] theorem State.chanItem_frame (k : Channel) (m : Bool) :
    (s.chanItem k m).time = s.time ∧ (s.chanItem k m).clk = s.clk ∧ (s.chanItem k m).tick = s.tick ∧
    (s.chanItem k m).lines = s.lines ∧ (s.chanItem k m).sup = s.sup ∧ (s.chanItem k m).safeIn = s.safeIn ∧
    (s.chanItem k m).staging = s.staging ∧ (s.chanItem k m).scrub = s.scrub ∧ (s.chanItem k m).causes = s.causes ∧
    (s.chanItem k m).safepat = s.safepat ∧ (s.chanItem k m).outs = s.outs ∧ (s.chanItem k m).pins = s.pins ∧
    (s.chanItem k m).wdg = s.wdg ∧ (s.chanItem k m).link = s.link ∧ (s.chanItem k m).counters = s.counters ∧
    (s.chanItem k m).rstcause = s.rstcause ∧ (s.chanItem k m).pending = s.pending := by
  unfold State.chanItem; split <;> simp

@[simp] theorem State.raiseLnk_frame :
    (s.raiseLnk).time = s.time ∧ (s.raiseLnk).clk = s.clk ∧ (s.raiseLnk).tick = s.tick ∧
    (s.raiseLnk).lines = s.lines ∧ (s.raiseLnk).sup = s.sup ∧ (s.raiseLnk).safeIn = s.safeIn ∧
    (s.raiseLnk).staging = s.staging ∧ (s.raiseLnk).scrub = s.scrub ∧ (s.raiseLnk).safepat = s.safepat ∧
    (s.raiseLnk).outs = s.outs ∧ (s.raiseLnk).pins = s.pins ∧ (s.raiseLnk).link = s.link ∧
    (s.raiseLnk).counters = s.counters ∧ (s.raiseLnk).rstcause = s.rstcause ∧ (s.raiseLnk).pending = s.pending := by
  simp [State.raiseLnk]

@[simp] theorem State.clearLnk_frame :
    (s.clearLnk).time = s.time ∧ (s.clearLnk).clk = s.clk ∧ (s.clearLnk).tick = s.tick ∧
    (s.clearLnk).lines = s.lines ∧ (s.clearLnk).sup = s.sup ∧ (s.clearLnk).safeIn = s.safeIn ∧
    (s.clearLnk).staging = s.staging ∧ (s.clearLnk).scrub = s.scrub ∧ (s.clearLnk).chans = s.chans ∧
    (s.clearLnk).causes = s.causes ∧ (s.clearLnk).safepat = s.safepat ∧ (s.clearLnk).outs = s.outs ∧
    (s.clearLnk).pins = s.pins ∧ (s.clearLnk).link = s.link ∧ (s.clearLnk).counters = s.counters ∧
    (s.clearLnk).rstcause = s.rstcause ∧ (s.clearLnk).pending = s.pending := by
  unfold State.clearLnk; dsimp only; split <;> simp

@[simp] theorem State.arm_frame (scope : Scope) (k : Channel) :
    (s.arm scope k).time = s.time ∧ (s.arm scope k).clk = s.clk ∧ (s.arm scope k).tick = s.tick ∧
    (s.arm scope k).lines = s.lines ∧ (s.arm scope k).sup = s.sup ∧ (s.arm scope k).safeIn = s.safeIn ∧
    (s.arm scope k).scrub = s.scrub ∧ (s.arm scope k).chans = s.chans ∧ (s.arm scope k).causes = s.causes ∧
    (s.arm scope k).safepat = s.safepat ∧ (s.arm scope k).outs = s.outs ∧ (s.arm scope k).pins = s.pins ∧
    (s.arm scope k).journal = s.journal ∧ (s.arm scope k).arb = s.arb ∧ (s.arm scope k).wdg = s.wdg ∧
    (s.arm scope k).link = s.link ∧ (s.arm scope k).counters = s.counters ∧ (s.arm scope k).rstcause = s.rstcause ∧
    (s.arm scope k).pending = s.pending := by
  cases scope <;> simp [State.arm]

@[simp] theorem State.disarm_frame (scope : Scope) :
    (s.disarm scope).time = s.time ∧ (s.disarm scope).clk = s.clk ∧ (s.disarm scope).tick = s.tick ∧
    (s.disarm scope).lines = s.lines ∧ (s.disarm scope).sup = s.sup ∧ (s.disarm scope).safeIn = s.safeIn ∧
    (s.disarm scope).scrub = s.scrub ∧ (s.disarm scope).chans = s.chans ∧ (s.disarm scope).causes = s.causes ∧
    (s.disarm scope).safepat = s.safepat ∧ (s.disarm scope).outs = s.outs ∧ (s.disarm scope).pins = s.pins ∧
    (s.disarm scope).journal = s.journal ∧ (s.disarm scope).arb = s.arb ∧ (s.disarm scope).wdg = s.wdg ∧
    (s.disarm scope).link = s.link ∧ (s.disarm scope).counters = s.counters ∧
    (s.disarm scope).rstcause = s.rstcause ∧ (s.disarm scope).pending = s.pending := by
  cases scope <;> simp [State.disarm]

@[simp] theorem State.copyScope_frame (scope : Scope) :
    (s.copyScope scope).time = s.time ∧ (s.copyScope scope).clk = s.clk ∧ (s.copyScope scope).tick = s.tick ∧
    (s.copyScope scope).lines = s.lines ∧ (s.copyScope scope).sup = s.sup ∧ (s.copyScope scope).safeIn = s.safeIn ∧
    (s.copyScope scope).scrub = s.scrub ∧ (s.copyScope scope).chans = s.chans ∧
    (s.copyScope scope).causes = s.causes ∧ (s.copyScope scope).safepat = s.safepat ∧
    (s.copyScope scope).outs = s.outs ∧ (s.copyScope scope).pins = s.pins ∧ (s.copyScope scope).journal = s.journal ∧
    (s.copyScope scope).arb = s.arb ∧ (s.copyScope scope).wdg = s.wdg ∧ (s.copyScope scope).link = s.link ∧
    (s.copyScope scope).counters = s.counters ∧ (s.copyScope scope).rstcause = s.rstcause ∧
    (s.copyScope scope).pending = s.pending := by
  cases scope <;> simp [State.copyScope]

@[simp] theorem State.discardOne_frame (src : Source) :
    (s.discardOne src).time = s.time ∧ (s.discardOne src).clk = s.clk ∧ (s.discardOne src).tick = s.tick ∧
    (s.discardOne src).lines = s.lines ∧ (s.discardOne src).sup = s.sup ∧ (s.discardOne src).safeIn = s.safeIn ∧
    (s.discardOne src).staging = s.staging ∧ (s.discardOne src).scrub = s.scrub ∧
    (s.discardOne src).chans = s.chans ∧ (s.discardOne src).causes = s.causes ∧
    (s.discardOne src).safepat = s.safepat ∧ (s.discardOne src).outs = s.outs ∧ (s.discardOne src).pins = s.pins ∧
    (s.discardOne src).journal = s.journal ∧ (s.discardOne src).wdg = s.wdg ∧ (s.discardOne src).link = s.link ∧
    (s.discardOne src).rstcause = s.rstcause ∧ (s.discardOne src).pending = s.pending := by
  unfold State.discardOne; split <;> simp

@[simp] theorem State.tableCommitted_frame :
    (s.tableCommitted).time = s.time ∧ (s.tableCommitted).clk = s.clk ∧ (s.tableCommitted).tick = s.tick ∧
    (s.tableCommitted).lines = s.lines ∧ (s.tableCommitted).sup = s.sup ∧ (s.tableCommitted).safeIn = s.safeIn ∧
    (s.tableCommitted).chans = s.chans ∧ (s.tableCommitted).causes = s.causes ∧
    (s.tableCommitted).safepat = s.safepat ∧ (s.tableCommitted).outs = s.outs ∧ (s.tableCommitted).pins = s.pins ∧
    (s.tableCommitted).journal = s.journal ∧ (s.tableCommitted).wdg = s.wdg ∧ (s.tableCommitted).link = s.link ∧
    (s.tableCommitted).rstcause = s.rstcause ∧ (s.tableCommitted).pending = s.pending := by
  unfold State.tableCommitted; simp [tableSources]

@[simp] theorem State.applyCommit_frame (scope : Scope) :
    (s.applyCommit scope).time = s.time ∧ (s.applyCommit scope).clk = s.clk ∧ (s.applyCommit scope).tick = s.tick ∧
    (s.applyCommit scope).lines = s.lines ∧ (s.applyCommit scope).sup = s.sup ∧
    (s.applyCommit scope).safeIn = s.safeIn ∧ (s.applyCommit scope).chans = s.chans ∧
    (s.applyCommit scope).causes = s.causes ∧ (s.applyCommit scope).safepat = s.safepat ∧
    (s.applyCommit scope).outs = s.outs ∧ (s.applyCommit scope).pins = s.pins ∧ (s.applyCommit scope).wdg = s.wdg ∧
    (s.applyCommit scope).link = s.link ∧ (s.applyCommit scope).rstcause = s.rstcause ∧
    (s.applyCommit scope).pending = s.pending := by
  unfold State.applyCommit; cases scope <;> simp

@[simp] theorem State.applyArmed_frame (scope : Scope) :
    (s.applyArmed scope).time = s.time ∧ (s.applyArmed scope).clk = s.clk ∧ (s.applyArmed scope).tick = s.tick ∧
    (s.applyArmed scope).lines = s.lines ∧ (s.applyArmed scope).sup = s.sup ∧
    (s.applyArmed scope).safeIn = s.safeIn ∧ (s.applyArmed scope).chans = s.chans ∧
    (s.applyArmed scope).causes = s.causes ∧ (s.applyArmed scope).safepat = s.safepat ∧
    (s.applyArmed scope).outs = s.outs ∧ (s.applyArmed scope).pins = s.pins ∧ (s.applyArmed scope).wdg = s.wdg ∧
    (s.applyArmed scope).link = s.link ∧ (s.applyArmed scope).rstcause = s.rstcause ∧
    (s.applyArmed scope).pending = s.pending := by
  simp [State.applyArmed]

@[simp] theorem State.exitHold_frame :
    (s.exitHold).time = s.time ∧ (s.exitHold).clk = s.clk ∧ (s.exitHold).tick = s.tick ∧
    (s.exitHold).lines = s.lines ∧ (s.exitHold).sup = s.sup ∧ (s.exitHold).safeIn = s.safeIn ∧
    (s.exitHold).staging = s.staging ∧ (s.exitHold).scrub = s.scrub ∧ (s.exitHold).chans = s.chans ∧
    (s.exitHold).safepat = s.safepat ∧ (s.exitHold).outs = s.outs ∧ (s.exitHold).pins = s.pins ∧
    (s.exitHold).wdg = s.wdg ∧ (s.exitHold).link = s.link ∧ (s.exitHold).counters = s.counters ∧
    (s.exitHold).rstcause = s.rstcause ∧ (s.exitHold).pending = s.pending := by
  simp [State.exitHold]

@[simp] theorem State.forceTrip_frame (m : ChannelMask) (t : TripKind) :
    (s.forceTrip m t).time = s.time ∧ (s.forceTrip m t).clk = s.clk ∧ (s.forceTrip m t).tick = s.tick ∧
    (s.forceTrip m t).lines = s.lines ∧ (s.forceTrip m t).sup = s.sup ∧ (s.forceTrip m t).safeIn = s.safeIn ∧
    (s.forceTrip m t).staging = s.staging ∧ (s.forceTrip m t).scrub = s.scrub ∧ (s.forceTrip m t).causes = s.causes ∧
    (s.forceTrip m t).safepat = s.safepat ∧ (s.forceTrip m t).outs = s.outs ∧ (s.forceTrip m t).pins = s.pins ∧
    (s.forceTrip m t).wdg = s.wdg ∧ (s.forceTrip m t).link = s.link ∧ (s.forceTrip m t).counters = s.counters ∧
    (s.forceTrip m t).rstcause = s.rstcause ∧ (s.forceTrip m t).pending = s.pending := by
  unfold State.forceTrip; dsimp only; (repeat' split) <;> simp

@[simp] theorem State.handOver_frame (src : Source) (p : Pend) :
    (s.handOver src p).time = s.time ∧ (s.handOver src p).clk = s.clk ∧ (s.handOver src p).tick = s.tick ∧
    (s.handOver src p).lines = s.lines ∧ (s.handOver src p).sup = s.sup ∧ (s.handOver src p).safeIn = s.safeIn ∧
    (s.handOver src p).staging = s.staging ∧ (s.handOver src p).scrub = s.scrub ∧
    (s.handOver src p).chans = s.chans ∧ (s.handOver src p).causes = s.causes ∧
    (s.handOver src p).safepat = s.safepat ∧ (s.handOver src p).outs = s.outs ∧ (s.handOver src p).pins = s.pins ∧
    (s.handOver src p).journal = s.journal ∧ (s.handOver src p).wdg = s.wdg ∧ (s.handOver src p).link = s.link ∧
    (s.handOver src p).counters = s.counters ∧ (s.handOver src p).rstcause = s.rstcause ∧
    (s.handOver src p).pending = s.pending := by
  simp [State.handOver]

end Sys2Proof.Machine
end

