-- ==== Sys2Proof/Laws/Ticks.lean ====
section
/-! SUPPORT. How a part of a tick ends: the two outcomes of a part as a relation, and which tick is in progress afterwards: the
same one while the tick goes on, none once a reset has abandoned it. -/

namespace Sys2Proof.Machine

/-- A property of how a part of a tick ends: `M` if it goes on, `P` if a reset has abandoned it. -/
inductive Progress.Holds (M P : State → Prop) : Progress → Prop where
  | goes {s : State} (h : M s) : Progress.Holds M P (.goes s)
  | abandoned {s : State} (h : P s) : Progress.Holds M P (.abandoned s)

/-- A property of what an action answers. -/
inductive ActOut.Holds (M P : State → Prop) : ActOut → Prop where
  | done {s : State} {v : Verdict} {p : Quad} (h : M s) : ActOut.Holds M P (.done s v p)
  | reset {s : State} (h : P s) : ActOut.Holds M P (.reset s)

theorem Progress.Holds.bind {M P Q : State → Prop} {p : Progress} {f : State → Progress} (h : p.Holds M P)
    (hf : ∀ s, M s → (f s).Holds Q P) : (p.bind f).Holds Q P := by
  cases h with
  | goes h => exact hf _ h
  | abandoned h => exact .abandoned h

theorem Progress.Holds.st {M P R : State → Prop} {p : Progress} (h : p.Holds M P) (w : ∀ s, M s → R s)
    (v : ∀ s, P s → R s) : R p.st := by
  cases h with
  | goes h => exact w _ h
  | abandoned h => exact v _ h

@[simp] theorem Progress.bind_goes (s : State) (f : State → Progress) : (Progress.goes s).bind f = f s := rfl
@[simp] theorem Progress.bind_abandoned (s : State) (f : State → Progress) :
    (Progress.abandoned s).bind f = .abandoned s := rfl
@[simp] theorem Progress.st_goes (s : State) : (Progress.goes s).st = s := rfl
@[simp] theorem Progress.st_abandoned (s : State) : (Progress.abandoned s).st = s := rfl

theorem Progress.bind_assoc (p : Progress) (f g : State → Progress) :
    (p.bind f).bind g = p.bind fun s => (f s).bind g := by cases p <;> rfl

/-- A part that leaves the tick in progress as it was, or ends it. -/
abbrev Progress.Keeps (p : Progress) (t : Option OpenTick) : Prop := p.Holds (fun u => u.tick = t) fun u => u.tick = none

variable (s : State)

/-! ### Parts of a tick in sequence -/

/-- Transactions applied one after the other (R3). -/
theorem applyAll_append (a b : List Judged) : ∀ s : State, applyAll (a ++ b) s = (applyAll a s).bind (applyAll b) := by
  induction a with
  | nil => exact fun _ => rfl
  | cons j rest ih =>
    intro s
    simp only [List.cons_append, applyAll, Progress.bind_assoc]
    congr; funext t; exact ih t

/-- Items run one after the other (R14). -/
theorem runItems_append (inp : Samples) (a b : List Item) :
    ∀ s : State, runItems inp (a ++ b) s = (runItems inp a s).bind (runItems inp b) := by
  induction a with
  | nil => exact fun _ => rfl
  | cons i rest ih =>
    intro s
    simp only [List.cons_append, runItems, Progress.bind_assoc]
    congr; funext t; exact ih t

/-! ### The tick in progress -/

@[simp] theorem State.softReset_tick (kind : ResetKind) (cold : Bool) : (s.softReset kind cold).tick = none := by
  unfold State.softReset; dsimp only; split <;> simp [State.softResetBlocks]

theorem State.raiseHard_tick (src : Source) (c : Cause) (other : Source) : (s.raiseHard src c other).Keeps s.tick := by
  unfold State.raiseHard; dsimp only
  split
  · exact .abandoned (State.softReset_tick _ _ _)
  · exact .goes (by simp)

theorem State.scrubItem_tick : s.scrubItem.Keeps s.tick := by
  unfold State.scrubItem State.scrubRead State.scrubPassEnd; dsimp only
  (repeat' split) <;> first | exact .goes rfl | exact .goes (by simp) | exact State.raiseHard_tick _ _ _ _

theorem State.wdgItem_tick : s.wdgItem.Keeps s.tick := by
  unfold State.wdgItem
  dsimp only
  split
  · exact .goes rfl
  · split <;> exact .goes rfl
  · split
    · exact .goes (by simp [State.raiseLnk])
    · exact .goes rfl
  · split
    · exact .abandoned (State.softReset_tick _ _ _)
    · exact .goes rfl

theorem State.handOff_tick (h : HandOff) : (s.handOff h).Keeps s.tick := by
  cases h with
  | raise => exact State.raiseHard_tick { s with clk := { s.clk with cond := true, toRef := false } } _ _ _
  | clear => exact .goes (by simp)

theorem handOffsFrom_tick (l : List HandOff) : ∀ s : State, (handOffsFrom l s).Keeps s.tick := by
  induction l with
  | nil => exact fun _ => .goes rfl
  | cons h rest ih =>
    intro s
    unfold handOffsFrom
    refine Progress.Holds.bind (State.handOff_tick { s with clk := { s.clk with handOffs := rest } } h) fun t ht => ?_
    rw [show s.tick = t.tick from ht.symm]
    exact ih t

/-- An item leaves the tick in progress as it was, or a reset ends it (R15). -/
theorem State.runItem_tick (inp : Samples) (i : Item) : (s.runItem inp i).Keeps s.tick := by
  cases i with
  | line k => refine .goes ?_; unfold State.lineItem; dsimp only; split <;> simp
  | sup => exact .goes (by simp)
  | safeIn => exact .goes (by simp)
  | wdg => exact s.wdgItem_tick
  | scrub => exact s.scrubItem_tick
  | clk => exact handOffsFrom_tick _ { s with clk := { s.clk with seen := s.clk.mon } }
  | chan k => exact .goes (by simp)
  | keepMarks => exact .goes rfl
  | commitTable k => refine .goes ?_; unfold State.commitItem; split <;> simp
  | commitChannel k => refine .goes ?_; unfold State.commitItem; split <;> simp
  | outputs => exact .goes rfl
  | irq => exact .goes rfl
  | holdoff => exact .goes rfl

theorem runItems_tick (inp : Samples) (l : List Item) : ∀ s : State, (runItems inp l s).Keeps s.tick := by
  induction l with
  | nil => exact fun _ => .goes rfl
  | cons i rest ih => exact fun s => (s.runItem_tick inp i).bind fun t ht => by rw [← ht]; exact ih t

/-- After a tick in progress has ended, none is in progress. -/
@[simp] theorem State.settle_tick : s.settle.tick = none := by
  unfold State.settle
  split
  · assumption
  · exact ((runItems_tick _ _ s).bind (Q := fun u => u.tick = none) fun t _ => .goes rfl).st (fun _ h => h) fun _ h => h

/-- Where no tick is in progress, none has to end. -/
theorem State.settle_idle (h : s.tick = none) : s.settle = s := by simp [State.settle, h]

@[simp] theorem State.settle_settle : s.settle.settle = s.settle := State.settle_idle _ (State.settle_tick s)

/-! ### Phase 1 -/

theorem refuse_tick (why : Reason) (p : Quad) : (refuse s why p).Holds (fun u => u.tick = s.tick) fun u => u.tick = none :=
  .done rfl

theorem ifConfirmed_holds {M P : State → Prop} (code : Byte) (armed : Option Confirmation) (args : Quad)
    (act : State → ActOut) (h : M s) (ha : (act s).Holds M P) : (ifConfirmed code armed args s act).Holds M P := by
  unfold ifConfirmed
  split
  · split
    · exact ha
    · exact .done h
  · exact .done h

/-- An action leaves the tick in progress as it was, or its reset ends it (R15). -/
theorem actByCode_tick (code : Byte) (armed : Option Confirmation) (args : Quad) :
    (actByCode code armed args s).Holds (fun u => u.tick = s.tick) fun u => u.tick = none := by
  unfold actByCode
  split
  · unfold actAccept; (repeat' split) <;> exact .done rfl
  · unfold actDone; dsimp only; (repeat' split) <;> exact .done rfl
  · unfold actSetLevel; dsimp only; (repeat' split) <;> exact .done rfl
  · exact .done rfl
  · unfold actCancel; dsimp only; (repeat' split) <;> exact .done rfl
  · unfold actCommit commitChecked; dsimp only; (repeat' split) <;> exact .done (by first | rfl | simp)
  · unfold actAbortCommit; (repeat' split) <;> exact .done (by first | rfl | simp)
  · unfold actClearLatch; dsimp only; (repeat' split) <;> exact .done rfl
  · unfold actForceTrip; dsimp only; (repeat' split) <;> exact .done (by first | rfl | simp)
  · exact .done (by simp)
  · refine ifConfirmed_holds _ _ _ _ _ rfl ?_
    unfold exitChecked; dsimp only; (repeat' split) <;> exact .done (by first | rfl | simp)
  · unfold actJournalPop; (repeat' split) <;> exact .done rfl
  · refine .done ?_
    (repeat' split) <;> simp [State.lapseNow, State.raiseLnk]
  · unfold actWdgArm; dsimp only; (repeat' split) <;> exact .done rfl
  · unfold actLock; split <;> exact .done rfl
  · refine ifConfirmed_holds _ _ _ _ _ rfl ?_
    split <;> exact .done rfl
  · unfold actConfirm; dsimp only; split <;> exact .done rfl
  · exact ifConfirmed_holds _ _ _ _ _ rfl (.reset (State.softReset_tick _ _ _))
  · refine ifConfirmed_holds _ _ _ _ _ rfl ?_
    split <;> exact .done rfl
  · exact .done rfl
  · exact .done rfl
  · exact .done rfl

theorem Reg.store_tick (r : Reg) (w : Word) : (r.store w s).tick = s.tick := by
  cases r <;> simp [Reg.store]

theorem State.storeWords_tick (ws : List (Nat × Reg × Word)) : ∀ s : State, (s.storeWords ws).tick = s.tick := by
  induction ws with
  | nil => exact fun _ => rfl
  | cons x rest ih => exact fun s => (ih _).trans (Reg.store_tick s x.2.1 x.2.2)

/-- A transaction taken in phase 1 leaves the tick in progress as it was, or its reset ends it. -/
theorem State.applyJudged_tick (j : Judged) : (s.applyJudged j).Keeps s.tick := by
  cases j with
  | action tag code args =>
    unfold State.applyJudged State.applyAction
    dsimp only
    split
    · exact .goes rfl
    · generalize ho : actByCode code s.link.confirm args s.endConfirm = o
      cases ho ▸ actByCode_tick s.endConfirm code s.link.confirm args with
      | done h => exact .goes h
      | reset h => exact .abandoned h
  | write tag start count data =>
    refine .goes ?_
    unfold State.applyWrite
    dsimp only
    split
    · rfl
    · exact State.storeWords_tick _ _
  | read tag start count snapped => exact .goes rfl
  | bad kind tag short p => exact .goes rfl

theorem applyAll_tick (l : List Judged) : ∀ s : State, (applyAll l s).Keeps s.tick := by
  induction l with
  | nil => exact fun _ => .goes rfl
  | cons j rest ih => exact fun s => (s.applyJudged_tick j).bind fun t ht => by rw [← ht]; exact ih t

/-- A tick that has begun stands with all its items before it, unless phase 1 has abandoned it (R13, R15). -/
theorem State.openTick_tick (inp : Samples) : (s.openTick inp).Keeps (some ⟨inp, tickItems⟩) := applyAll_tick _ _

end Sys2Proof.Machine
end

