-- ==== Sys2Proof/Laws/Keeps.lean ====
section
/-! SUPPORT. What a step can do, said once: from a property `P` at a command's beginning, through one that holds inside a tick
while given items are still to run (`M`), to `P` at the command's end, if each named operation leads on. A proof of an
invariant cites `Keeps.step` and never unfolds `step`. -/

namespace Sys2Proof.Machine

open Host (Outcome)

/-- Every named operation keeps `P` between commands, and inside a tick leads from `M` of the items that are left to `M` of
those left after it. -/
structure Keeps (P : State → Prop) (M : List Item → State → Prop) : Prop where
  /-- The link, the holding word of a snapshot, and the pins. -/
  link : ∀ s (l : Link), P s → P { s with link := l }
  holdWord : ∀ s w, P s → P { s with time := { s.time with hold := w } }
  pins : ∀ s (p : Pins), P s → P { s with pins := p }
  /-- The clock monitor's own transitions, which wait for no tick. -/
  clock : ∀ s e, P s → P (s.clockEvent e)
  /-- POR, and PIN where no reset lasts. -/
  por : ∀ s, P s → P s.powerOn
  pin : ∀ s, P s → s.inReset = false → P s.pinLow
  /-- The beginning of a tick, its interruption by the end of a command, its going on, and its end. -/
  beginTick : ∀ s inp, P s → M tickItems (s.beginTick inp)
  leave : ∀ s inp l, M l s → s.tick = some ⟨inp, l⟩ → P s
  opened : ∀ s t, P s → s.tick = some t → M t.left s
  finish : ∀ s inp, M [] s → P (s.endTick inp)
  /-- Inside a tick: the link and the tick in progress. -/
  linkM : ∀ s (l : Link) i, M i s → M i { s with link := l }
  tickM : ∀ s (t : Option OpenTick) i, M i s → M i { s with tick := t }
  /-- Phase 1. -/
  countError : ∀ s, M tickItems s → M tickItems s.countError
  act : ∀ s code armed args, M tickItems s → (actByCode code armed args s).Holds (M tickItems) P
  write : ∀ s tag start count data, M tickItems s → M tickItems (s.applyWrite tag start count data)
  /-- The items. -/
  line : ∀ s k active rest, M (.line k :: rest) s → s.lines[k].cfg.enable = true → M rest (s.lineRaw k active)
  lineOff : ∀ s k rest, M (.line k :: rest) s → s.lines[k].cfg.enable = false → M rest s
  sup : ∀ s low rest, M (.sup :: rest) s → M rest (s.supItem low)
  safeIn : ∀ s level rest, M (.safeIn :: rest) s → M rest (s.safeInItem level)
  wdg : ∀ s rest, M (.wdg :: rest) s → s.wdgItem.Holds (M rest) P
  scrub : ∀ s rest, M (.scrub :: rest) s → s.scrubItem.Holds (M rest) P
  clk : ∀ s rest, M (.clk :: rest) s → s.clkItem.Holds (M rest) P
  chan : ∀ s k mark rest, M (.chan k :: rest) s → M rest (s.chanItem k mark)
  keepMarks : ∀ s wm rest, M (.keepMarks :: rest) s → M rest (s.keepMarks wm)
  commitTable : ∀ s k rest, M (.commitTable k :: rest) s → M rest (s.commitItem .table k)
  commitChannel : ∀ s k rest, M (.commitChannel k :: rest) s → M rest (s.commitItem (.channel k) k)
  outputs : ∀ s rest, M (.outputs :: rest) s → M rest s.recomputeOutputs
  irq : ∀ s holding rest, M (.irq :: rest) s → M rest (s.recomputeIrq holding)
  holdoff : ∀ s rest, M (.holdoff :: rest) s → M rest s.holdoffDown

namespace Keeps

variable {P : State → Prop} {M : List Item → State → Prop}

/-! ### Phase 1 -/

theorem storeResult (K : Keeps P M) {s : State} {l : List Item} (h : M l s) (kind tag v p) :
    M l (s.storeResult kind tag v p) := K.linkM s _ l h

theorem endConfirm (K : Keeps P M) {s : State} {l : List Item} (h : M l s) : M l s.endConfirm := K.linkM s _ l h

theorem applyAction (K : Keeps P M) {s : State} (h : M tickItems s) (tag code args) :
    (s.applyAction tag code args).Holds (M tickItems) P := by
  unfold State.applyAction
  split
  · exact .goes (K.storeResult (K.endConfirm h) _ _ _ _)
  · generalize ho : actByCode code s.link.confirm args s.endConfirm = o
    cases ho ▸ K.act _ code s.link.confirm args (K.endConfirm h) with
    | done ht => exact .goes (K.storeResult (K.linkM _ _ _ ht) _ _ _ _)
    | reset ht => exact .abandoned ht

theorem applyJudged (K : Keeps P M) {s : State} (h : M tickItems s) (j : Judged) :
    (s.applyJudged j).Holds (M tickItems) P := by
  cases j with
  | action tag code args => exact K.applyAction h tag code args
  | write tag start count data => exact .goes (K.write s tag start count data h)
  | read tag start count snapped =>
    exact .goes (K.storeResult (s := s.endConfirm.breakChain) (K.linkM _ _ _ (K.endConfirm h)) _ _ _ _)
  | bad kind tag short p => exact .goes (K.storeResult (K.countError s h) _ _ _ _)

theorem applyAll (K : Keeps P M) (l : List Judged) :
    ∀ {s : State}, M tickItems s → (Machine.applyAll l s).Holds (M tickItems) P := by
  induction l with
  | nil => exact fun h => .goes h
  | cons j rest ih => exact fun h => (K.applyJudged h j).bind fun t ht => ih ht

theorem openTick (K : Keeps P M) {s : State} (h : P s) (inp : Samples) : (s.openTick inp).Holds (M tickItems) P :=
  K.applyAll _ (K.linkM _ _ _ (K.beginTick s inp h))

/-- The state after phase 1, with the tick in progress. -/
theorem opening (K : Keeps P M) {s : State} (h : P s) (inp : Samples) : P (s.openTick inp).st := by
  have ht := s.openTick_tick inp
  have hm := K.openTick h inp
  cases hp : s.openTick inp with
  | goes t =>
    rw [hp] at ht hm
    cases ht with
    | goes ht => cases hm with | goes hm => exact K.leave t inp _ hm ht
  | abandoned t =>
    rw [hp] at hm
    cases hm with | abandoned hm => exact hm

/-! ### Items -/

theorem runItem (K : Keeps P M) {s : State} (inp : Samples) (i : Item) (rest : List Item) (h : M (i :: rest) s) :
    (s.runItem inp i).Holds (M rest) P := by
  cases i with
  | line k =>
    refine .goes ?_
    unfold State.lineItem
    dsimp only
    split
    · exact K.line s k _ rest h ‹_›
    · exact K.lineOff s k rest h (by simpa using ‹¬ s.lines[k].cfg.enable = true›)
  | sup => exact .goes (K.sup s _ rest h)
  | safeIn => exact .goes (K.safeIn s _ rest h)
  | wdg => exact K.wdg s rest h
  | scrub => exact K.scrub s rest h
  | clk => exact K.clk s rest h
  | chan k => exact .goes (K.chan s k _ rest h)
  | keepMarks => exact .goes (K.keepMarks s _ rest h)
  | commitTable k => exact .goes (K.commitTable s k rest h)
  | commitChannel k => exact .goes (K.commitChannel s k rest h)
  | outputs => exact .goes (K.outputs s rest h)
  | irq => exact .goes (K.irq s _ rest h)
  | holdoff => exact .goes (K.holdoff s rest h)

theorem runItems (K : Keeps P M) (inp : Samples) (l : List Item) :
    ∀ {s : State}, M l s → (Machine.runItems inp l s).Holds (M []) P := by
  induction l with
  | nil => exact fun h => .goes h
  | cons i rest ih => exact fun h => (K.runItem inp i rest h).bind fun t ht => ih ht

theorem settle (K : Keeps P M) {s : State} (h : P s) : P s.settle := by
  unfold State.settle
  split
  · exact h
  · rename_i t ht
    exact ((K.runItems t.inp t.left (K.opened s t h ht)).bind (Q := P) fun u hu => .goes (K.finish u t.inp hu)).st
      (fun _ x => x) fun _ x => x

theorem wholeTick (K : Keeps P M) {s : State} (h : P s) (inp : Samples) : P (s.wholeTick inp) := by
  unfold State.wholeTick
  split
  · exact h
  · exact K.settle (K.opening (K.settle h) inp)

theorem tickFor (K : Keeps P M) {s : State} (h : P s) (w : Option Samples) : P (s.tickFor w) := by
  cases w with
  | none => exact h
  | some inp => exact K.opening (K.settle h) inp

theorem runTo (K : Keeps P M) (i : Item) (inp : Samples) (l : List Item) :
    ∀ {s u : State}, M l s → Machine.runTo i inp l s = some u →
      ∃ rest, u.tick = some ⟨inp, i :: rest⟩ ∧ M (i :: rest) u := by
  induction l with
  | nil => exact fun _ e => by cases e
  | cons j rest ih =>
    intro s u h e
    unfold Machine.runTo at e
    split at e
    · rename_i hj
      subst hj
      cases e
      exact ⟨rest, rfl, K.tickM s _ _ h⟩
    · have hr := K.runItem inp j rest h
      split at e
      · rename_i t ht
        rw [ht] at hr
        cases hr with | goes hr => exact ih hr e
      · cases e

theorem reach (K : Keeps P M) {s u : State} (h : P s) (w : Option Samples) (i : State → Item)
    (e : s.reach w i = some u) : ∃ inp j rest, u.tick = some ⟨inp, j :: rest⟩ ∧ M (j :: rest) u := by
  unfold State.reach at e
  dsimp only at e
  split at e
  · rename_i t ht
    obtain ⟨rest, h1, h2⟩ := K.runTo _ t.inp t.left (K.opened _ t (K.tickFor h w) ht) e
    exact ⟨_, _, rest, h1, h2⟩
  · cases e

theorem runNext (K : Keeps P M) {s : State} {inp : Samples} {i : Item} {rest : List Item}
    (ht : s.tick = some ⟨inp, i :: rest⟩) (h : M (i :: rest) s) : P s.runNext := by
  have e : s.runNext = (s.past.runItem inp i).st := by simp [State.runNext, ht]
  have hp : s.past.tick = some ⟨inp, rest⟩ := by simp [State.past, ht]
  have hm := K.runItem inp i rest (K.tickM s (s.tick.map fun t => { t with left := t.left.tail }) _ h)
  have hk := s.past.runItem_tick inp i
  rw [e]
  change (s.past.runItem inp i).Holds (M rest) P at hm
  cases hq : s.past.runItem inp i with
  | goes t =>
    rw [hq] at hm hk
    cases hm with | goes hm => cases hk with | goes hk => exact K.leave t inp rest hm (hk.trans hp)
  | abandoned t =>
    rw [hq] at hm
    cases hm with | abandoned hm => exact hm

theorem meets (K : Keeps P M) {s u : State} (h : P s) (w : Option Samples) (e : Event) (hu : s.meets w e = some u) :
    P u.runNext := by
  obtain ⟨inp, j, rest, h1, h2⟩ := K.reach h w e.item (Option.filter_eq_some_iff.mp hu |>.1)
  exact K.runNext h1 h2

theorem event (K : Keeps P M) {s : State} (h : P s) (e : Event) : P (s.event e) := by
  unfold State.event
  split
  · exact h
  · split
    · exact K.meets h _ e ‹_›
    · split
      · exact K.meets h _ e ‹_›
      · exact h

/-! ### Transactions -/

theorem snapshot (K : Keeps P M) {s : State} (h : P s) : P s.snapshot := by
  rw [s.snapshot_eq]
  exact K.link { s with time := { s.time with hold := s.snapshot.time.hold } }
    { s.link with flight := s.snapshot.link.flight, owed := false } (K.holdWord s _ h)

theorem clockByte (K : Keeps P M) {s : State} (h : P s) (b : Byte) : P (s.clockByte b) := by
  unfold State.clockByte
  split
  · exact h
  · dsimp only
    split <;> exact K.link s _ h

theorem mid (K : Keeps P M) {s : State} (h : P s) (e : MidEvent) : P (s.mid e) := by
  cases e with
  | tick inp => exact K.wholeTick h inp
  | clock e => exact K.clock s e h

theorem mids (K : Keeps P M) (l : List Mid) : ∀ {s : State}, P s → P (l.foldl (fun s m => s.mid m.event) s) := by
  induction l with
  | nil => exact fun h => h
  | cons m rest ih => exact fun h => ih (K.mid h m.event)

theorem carry (K : Keeps P M) (bytes : List Byte) : ∀ (n : Nat) (l : List Mid) {s : State}, P s → P (carry n bytes l s) := by
  induction bytes with
  | nil => exact fun _ l _ h => K.mids l h
  | cons b rest ih => exact fun n l s h => ih _ _ (K.clockByte (K.mids _ h) b)

theorem lift (K : Keeps P M) {s : State} (h : P s) : P s.lift := by
  unfold State.lift
  split
  · exact h
  · exact K.link s _ h

theorem await (K : Keeps P M) {s : State} (h : P s) (j : Option Judged) : P (s.await j) := by
  cases j with
  | none => exact h
  | some j => exact K.link s _ h

theorem rise (K : Keeps P M) {s : State} (h : P s) (bytes : List Byte) : P (s.rise bytes) := by
  unfold State.rise
  split
  · exact h
  · exact K.await (K.lift h) _

theorem transfer (K : Keeps P M) {s : State} (h : P s) (bytes : List Byte) (l : List Mid) : P (s.transfer bytes l) := by
  refine K.carry _ _ _ ?_
  have h1 := K.settle h
  unfold State.take
  split
  · exact K.link _ _ h1
  · split
    · exact h1
    · exact K.link _ _ (K.rise h1 _)

theorem frame (K : Keeps P M) {s : State} (h : P s) (bytes : List Byte) (c : Course) : P (s.frame bytes c) := by
  unfold State.frame
  split
  · exact h
  · have h1 := K.rise (K.transfer h bytes c.during) bytes
    cases c.next with
    | none => exact h1
    | some inp => exact K.opening h1 inp

theorem readBoundary (K : Keeps P M) {s : State} (h : P s) (f : Frame) (r : WordRange) : P (s.readBoundary f r) := by
  unfold State.readBoundary
  split
  · exact h
  · exact K.snapshot (K.transfer h _ _)

/-! ### Commands -/

/-- Every command's meaning answers a next state that has the property. -/
theorem exec (K : Keeps P M) {s : State} (h : P s) (c : Instr) : ∃ t, exec c s = .next t ∧ P t := by
  cases c with
  | tick inp => exact ⟨_, rfl, K.wholeTick h inp⟩
  | holdoffExpire => exact ⟨_, rfl, K.event h _⟩
  | lineAssert k => exact ⟨_, rfl, K.event h _⟩
  | lineClear k => exact ⟨_, rfl, K.event h _⟩
  | supAssert => exact ⟨_, rfl, K.event h _⟩
  | supClear => exact ⟨_, rfl, K.event h _⟩
  | safeInActive => exact ⟨_, rfl, K.event h _⟩
  | safeInInactive => exact ⟨_, rfl, K.event h _⟩
  | mark k => exact ⟨_, rfl, K.event h _⟩
  | escalatePersist k => exact ⟨_, rfl, K.event h _⟩
  | escalateStarved k => exact ⟨_, rfl, K.event h _⟩
  | armedCommitApply scope => exact ⟨_, rfl, K.event h _⟩
  | scrubRead => exact ⟨_, rfl, K.event h _⟩
  | scrubPassEnd => exact ⟨_, rfl, K.event h _⟩
  | refclkMissing => exact ⟨_, rfl, K.clock _ _ (K.settle h)⟩
  | clkRaise => exact ⟨_, rfl, K.event h _⟩
  | refclkReturn => exact ⟨_, rfl, K.clock _ _ (K.settle h)⟩
  | refclkLostAgain => exact ⟨_, rfl, K.clock _ _ (K.settle h)⟩
  | clockRecovered => exact ⟨_, rfl, K.clock _ _ (K.settle h)⟩
  | clkClear => exact ⟨_, rfl, K.event h _⟩
  | windowOpen => exact ⟨_, rfl, K.event h _⟩
  | lateViolation => exact ⟨_, rfl, K.event h _⟩
  | secondLapse => exact ⟨_, rfl, K.event h _⟩
  | por => exact ⟨_, rfl, K.por s h⟩
  | pinReset =>
    refine ⟨_, rfl, ?_⟩
    cases hr : s.inReset with
    | true =>
      have e : s.pinLow = { s with pins := { s.pins with nrstLow := true } } := by simp [State.pinLow, hr]
      rw [e]
      exact K.pins s _ h
    | false => exact K.pin s h hr
  | frameError bytes course => exact ⟨_, rfl, K.frame h _ _⟩
  | null f => exact ⟨_, rfl, K.frame h _ _⟩
  | read f start count inTime => exact ⟨_, rfl, K.frame h _ _⟩
  | readSnapshot f range => exact ⟨_, rfl, K.readBoundary h _ _⟩
  | write f start count data => exact ⟨_, rfl, K.frame h _ _⟩
  | lineEnable f k word => exact ⟨_, rfl, K.frame h _ _⟩
  | lineDisable f k word => exact ⟨_, rfl, K.frame h _ _⟩
  | polarityChange f k word => exact ⟨_, rfl, K.frame h _ _⟩
  | shadowWrite f start data => exact ⟨_, rfl, K.frame h _ _⟩
  | safepatWrite f word => exact ⟨_, rfl, K.frame h _ _⟩
  | arbcfgWrite f word => exact ⟨_, rfl, K.frame h _ _⟩
  | wdgcfgWrite f word => exact ⟨_, rfl, K.frame h _ _⟩
  | jrnlCfgWrite f word => exact ⟨_, rfl, K.frame h _ _⟩
  | accept f args => exact ⟨_, rfl, K.frame h _ _⟩
  | done f args => exact ⟨_, rfl, K.frame h _ _⟩
  | setLevel f args => exact ⟨_, rfl, K.frame h _ _⟩
  | holdoff f args => exact ⟨_, rfl, K.frame h _ _⟩
  | cancel f args => exact ⟨_, rfl, K.frame h _ _⟩
  | commit f args => exact ⟨_, rfl, K.frame h _ _⟩
  | abortCommit f args => exact ⟨_, rfl, K.frame h _ _⟩
  | clearLatch f args => exact ⟨_, rfl, K.frame h _ _⟩
  | forceTrip f args => exact ⟨_, rfl, K.frame h _ _⟩
  | forceSafe f args => exact ⟨_, rfl, K.frame h _ _⟩
  | exitSafe f args => exact ⟨_, rfl, K.frame h _ _⟩
  | journalPop f args => exact ⟨_, rfl, K.frame h _ _⟩
  | keepalive f args => exact ⟨_, rfl, K.frame h _ _⟩
  | wdgArm f args => exact ⟨_, rfl, K.frame h _ _⟩
  | lock f args => exact ⟨_, rfl, K.frame h _ _⟩
  | unlock f args => exact ⟨_, rfl, K.frame h _ _⟩
  | confirm f args => exact ⟨_, rfl, K.frame h _ _⟩
  | resetDevice f args => exact ⟨_, rfl, K.frame h _ _⟩
  | selftest f args => exact ⟨_, rfl, K.frame h _ _⟩
  | clearCounters f args => exact ⟨_, rfl, K.frame h _ _⟩
  | clearCause f args => exact ⟨_, rfl, K.frame h _ _⟩
  | refclkGoodPeriod => exact ⟨_, rfl, K.clock _ _ (K.settle h)⟩
  | pwmInputEdge k side level =>
    refine ⟨_, rfl, ?_⟩
    cases side <;> exact K.pins s _ h
  | resetRelease line =>
    refine ⟨_, rfl, ?_⟩
    cases line <;> exact K.pins s _ h
  | unknownActionCode f code args => exact ⟨_, rfl, K.frame h _ _⟩

/-- Every step keeps a property that the queue does not touch. -/
theorem step (K : Keeps P M) (hq : ∀ s q, P s → P (s.withPending q)) {s t : State} (h : P s)
    (e : step s = .next t) : P t := by
  unfold Machine.step at e
  split at e
  · cases e; exact h
  · obtain ⟨u, hu, hp⟩ := K.exec (hq s ‹_› h) ‹_›
    rw [hu] at e
    cases e
    exact hp

end Keeps

end Sys2Proof.Machine
end

