-- ==== Sys2Proof/WellFormed.lean ====
section
/-! DEFINITION. Which commands are well-formed: the operands that the command's own row of spec/opcode_table.json admits. The
meanings are total all the same: they answer a next state on every operand. -/

namespace Sys2Proof

open Machine

/-- The number of data words a WRITE frame with this count byte carries (Table 10-1). -/
def writeDataLength (count : Byte) : Nat := if 1 ≤ count.toNat ∧ count.toNat ≤ 16 then count.toNat else 0

/-- A range of `n` words from `start` lies within the shadow words 0x60-0x97 (Table 11-2). -/
def inShadow (start : Byte) (n : Nat) : Bool := decide (1 ≤ n ∧ n ≤ 16 ∧ 0x60 ≤ start.toNat ∧ start.toNat + n ≤ 0x98)

/-- What happens while nCS is low, of a transaction of `n` bytes, stands in the order in which it happens (R158). -/
def duringFits (n : Nat) (during : List Mid) : Bool :=
  during.all (fun m => decide (m.after ≤ n)) && decide ((during.map (·.after)).Pairwise (· ≤ ·))

/-- A frame of `n` bytes without its fill whose operands fit. -/
def Frame.fits (f : Frame) (n : Nat) : Bool := duringFits (n + f.fill.length) f.during

/-- A command whose operands fit its row: what happens while nCS is low stands in order, a WRITE carries the words its count
announces (R156), LINE_ENABLE sets and LINE_DISABLE clears the Enable bit (R18), SHADOW_WRITE writes shadow words only (R41),
FRAME_ERROR fails a frame check (R157), READ_SNAPSHOT comes at the CRC byte and with neither fill nor a next tick of its own
(R4), UNKNOWN_ACTION_CODE carries a code outside 1-21 (R166). Every operand of every other command fits. -/
def Instr.wf : Instr → Bool
  | .null f => f.fits 2
  | .read f _ _ inTime => (f.tickAfter 4 inTime).fits 4
  | .readSnapshot f _ => f.fits 4 && f.fill == [] && f.next == none
  | .write f _ count data => f.fits (4 + 2 * writeDataLength count) && data.length == writeDataLength count
  | .lineEnable f _ word => f.fits 6 && word.getLsbD 0
  | .lineDisable f _ word => f.fits 6 && !word.getLsbD 0
  | .polarityChange f _ _ | .safepatWrite f _ | .arbcfgWrite f _ | .wdgcfgWrite f _ | .jrnlCfgWrite f _ => f.fits 6
  | .shadowWrite f start data => f.fits (4 + 2 * data.length) && inShadow start data.length
  | .frameError bytes c => duringFits bytes.length c.during && (frameCheck bytes).isSome
  | .unknownActionCode f code _ => f.fits 7 && decide (code.toNat = 0 ∨ 21 < code.toNat)
  | .accept f _ | .done f _ | .setLevel f _ | .holdoff f _ | .cancel f _ | .commit f _ | .abortCommit f _
  | .clearLatch f _ | .forceTrip f _ | .forceSafe f _ | .exitSafe f _ | .journalPop f _ | .keepalive f _ | .wdgArm f _
  | .lock f _ | .unlock f _ | .confirm f _ | .resetDevice f _ | .selftest f _ | .clearCounters f _ | .clearCause f _ =>
    f.fits 7
  | .tick _ | .holdoffExpire | .lineAssert _ | .lineClear _ | .supAssert | .supClear | .safeInActive | .safeInInactive
  | .mark _ | .escalatePersist _ | .escalateStarved _ | .armedCommitApply _ | .scrubRead | .scrubPassEnd
  | .refclkMissing | .clkRaise | .refclkReturn | .refclkLostAgain | .clockRecovered | .clkClear | .windowOpen
  | .lateViolation | .secondLapse | .por | .pinReset | .refclkGoodPeriod | .pwmInputEdge _ _ _ | .resetRelease _ => true

end Sys2Proof
end

