-- ==== Sys2Proof/Safety.lean ====
section
/-! DEFINITION. What the claims speak of: when a frame is taken in a tick's phase 1, what a command judges, and the relations
between the parts of the state that every step keeps. -/

namespace Sys2Proof.Machine

/-! ### Frames and events taken in a tick -/

/-- A frame of these bytes (without its fill) is judged, and `s1` is the state that its phase 1 step finds: no POR or PIN
lasts, the transaction ends as `q` with no reset in between, the next tick begins after nCS has risen, and its phase 1 has
taken the transactions that waited before (R3, R158; log entries 3 and 4). -/
def Lands (f : Frame) (bytes : List Byte) (q : Flight) (s s1 : State) : Prop :=
  s.inReset = false ∧ q.dead = false ∧ (s.transfer (bytes ++ f.fill) f.during).link.flight = some q ∧
  ∃ inp u, f.next = some inp ∧ u = (s.transfer (bytes ++ f.fill) f.during).lift ∧
    applyAll u.link.waiting (u.beginTick inp).noWaiting = .goes s1

/-- A frame of these bytes is taken in phase 1 of a tick, whatever its stream was. -/
def Taken (f : Frame) (bytes : List Byte) (s s1 : State) : Prop := ∃ q : Flight, Lands f bytes q s s1

/-- An ACTION taken in phase 1 that is no replay (R164). -/
def TakenAction (f : Frame) (code : Byte) (args : Quad) (s s1 : State) : Prop :=
  Taken f (actionBytes f.tag code args) s s1 ∧ s1.link.replayOf f.tag code args = none

/-- A WRITE of one word taken in phase 1. -/
def TakenWord (f : Frame) (addr : Byte) (w : Word) (s s1 : State) : Prop := Taken f (writeBytes f.tag addr 1 [w]) s s1

/-- The item of an event in its tick, which runs on the samples `inp`: no POR or PIN lasts, and `s1` is the state that the item
finds, every earlier item of its tick run (R13, R14): in the tick in progress, or, where that gives the event no item that is
due, in the next one on the pins' standing levels as the event drives them (log entries 5 and 23). -/
def ItemOpen (e : Event) (inp : Samples) (s s1 : State) : Prop :=
  s.inReset = false ∧
  (s.reach none e.item = some s1 ∨ (s.meets none e = none ∧ s.reach (some (s.driven e)) e.item = some s1)) ∧
  ∃ rest, s1.tick = some ⟨inp, e.item s1 :: rest⟩

/-- The frame that a command is, with its bytes without the fill (Table 10-1, Table 10-5). -/
def frameOf : Instr → Option (Frame × List Byte)
  | .null f => some (f, nullBytes f.tag)
  | .read f start count inTime => some (f.tickAfter 4 inTime, readBytes f.tag start count)
  | .write f start count data => some (f, writeBytes f.tag start count data)
  | .lineEnable f k w => some (f, writeBytes f.tag (lineModeAddr k) 1 [w])
  | .lineDisable f k w => some (f, writeBytes f.tag (lineModeAddr k) 1 [w])
  | .polarityChange f k w => some (f, writeBytes f.tag (lineModeAddr k) 1 [w])
  | .shadowWrite f start data => some (f, writeBytes f.tag start (BitVec.ofNat 8 data.length) data)
  | .safepatWrite f w => some (f, writeBytes f.tag 0xE8 1 [w])
  | .arbcfgWrite f w => some (f, writeBytes f.tag 0x5F 1 [w])
  | .wdgcfgWrite f w => some (f, writeBytes f.tag 0x08 1 [w])
  | .jrnlCfgWrite f w => some (f, writeBytes f.tag 0xFB 1 [w])
  | .accept f args => some (f, actionBytes f.tag 1 args)
  | .done f args => some (f, actionBytes f.tag 2 args)
  | .setLevel f args => some (f, actionBytes f.tag 3 args)
  | .holdoff f args => some (f, actionBytes f.tag 4 args)
  | .cancel f args => some (f, actionBytes f.tag 5 args)
  | .commit f args => some (f, actionBytes f.tag 6 args)
  | .abortCommit f args => some (f, actionBytes f.tag 7 args)
  | .clearLatch f args => some (f, actionBytes f.tag 8 args)
  | .forceTrip f args => some (f, actionBytes f.tag 9 args)
  | .forceSafe f args => some (f, actionBytes f.tag 10 args)
  | .exitSafe f args => some (f, actionBytes f.tag 11 args)
  | .journalPop f args => some (f, actionBytes f.tag 12 args)
  | .keepalive f args => some (f, actionBytes f.tag 13 args)
  | .wdgArm f args => some (f, actionBytes f.tag 14 args)
  | .lock f args => some (f, actionBytes f.tag 15 args)
  | .unlock f args => some (f, actionBytes f.tag 16 args)
  | .confirm f args => some (f, actionBytes f.tag 17 args)
  | .resetDevice f args => some (f, actionBytes f.tag 18 args)
  | .selftest f args => some (f, actionBytes f.tag 19 args)
  | .clearCounters f args => some (f, actionBytes f.tag 20 args)
  | .clearCause f args => some (f, actionBytes f.tag 21 args)
  | .unknownActionCode f code args => some (f, actionBytes f.tag code args)
  | .tick _ | .holdoffExpire | .lineAssert _ | .lineClear _ | .supAssert | .supClear | .safeInActive | .safeInInactive
  | .mark _ | .escalatePersist _ | .escalateStarved _ | .armedCommitApply _ | .scrubRead | .scrubPassEnd
  | .refclkMissing | .clkRaise | .refclkReturn | .refclkLostAgain | .clockRecovered | .clkClear | .windowOpen
  | .lateViolation | .secondLapse | .por | .pinReset | .frameError _ _ | .readSnapshot _ _
  | .refclkGoodPeriod | .pwmInputEdge _ _ _ | .resetRelease _ => none

/-- The transaction that a command's frame is: what is judged when nCS rises; a NULL is never applied (R163). `snapped` says
that a boundary fell in time for the snapshot of a READ. -/
def transactionOf (snapped : Bool) : Instr → Option Judged
  | .null _ => none
  | .read f start count _ => some (.read f.tag start count snapped)
  | .write f start count data => some (.write f.tag start count data)
  | .lineEnable f k w => some (.write f.tag (lineModeAddr k) 1 [w])
  | .lineDisable f k w => some (.write f.tag (lineModeAddr k) 1 [w])
  | .polarityChange f k w => some (.write f.tag (lineModeAddr k) 1 [w])
  | .shadowWrite f start data => some (.write f.tag start (BitVec.ofNat 8 data.length) data)
  | .safepatWrite f w => some (.write f.tag 0xE8 1 [w])
  | .arbcfgWrite f w => some (.write f.tag 0x5F 1 [w])
  | .wdgcfgWrite f w => some (.write f.tag 0x08 1 [w])
  | .jrnlCfgWrite f w => some (.write f.tag 0xFB 1 [w])
  | .accept f args => some (.action f.tag 1 args)
  | .done f args => some (.action f.tag 2 args)
  | .setLevel f args => some (.action f.tag 3 args)
  | .holdoff f args => some (.action f.tag 4 args)
  | .cancel f args => some (.action f.tag 5 args)
  | .commit f args => some (.action f.tag 6 args)
  | .abortCommit f args => some (.action f.tag 7 args)
  | .clearLatch f args => some (.action f.tag 8 args)
  | .forceTrip f args => some (.action f.tag 9 args)
  | .forceSafe f args => some (.action f.tag 10 args)
  | .exitSafe f args => some (.action f.tag 11 args)
  | .journalPop f args => some (.action f.tag 12 args)
  | .keepalive f args => some (.action f.tag 13 args)
  | .wdgArm f args => some (.action f.tag 14 args)
  | .lock f args => some (.action f.tag 15 args)
  | .unlock f args => some (.action f.tag 16 args)
  | .confirm f args => some (.action f.tag 17 args)
  | .resetDevice f args => some (.action f.tag 18 args)
  | .selftest f args => some (.action f.tag 19 args)
  | .clearCounters f args => some (.action f.tag 20 args)
  | .clearCause f args => some (.action f.tag 21 args)
  | .unknownActionCode f code args => some (.action f.tag code args)
  | .tick _ | .holdoffExpire | .lineAssert _ | .lineClear _ | .supAssert | .supClear | .safeInActive | .safeInInactive
  | .mark _ | .escalatePersist _ | .escalateStarved _ | .armedCommitApply _ | .scrubRead | .scrubPassEnd
  | .refclkMissing | .clkRaise | .refclkReturn | .refclkLostAgain | .clockRecovered | .clkClear | .windowOpen
  | .lateViolation | .secondLapse | .por | .pinReset | .frameError _ _ | .readSnapshot _ _
  | .refclkGoodPeriod | .pwmInputEdge _ _ _ | .resetRelease _ => none

/-- The state an answered ACTION leaves: its outcome and payload stored in the result record and the replay memory (R3, R160,
R164). -/
def State.answered (s : State) (f : Frame) (code : Byte) (args : Quad) (v : Verdict) (p : Quad) : State :=
  s.finishAction f.tag code args v p

/-! ### Relations that every step keeps -/

/-- In Safe-Hold every channel is LATCHED (R65, R100). -/
def HoldLatches (s : State) : Prop := s.inHold = true → ∀ k : Channel, s.chans[k].st = .latched

/-- A NORMAL channel has no cause present, and only a LATCHED channel has a latch cause present (R63, R64, R70). -/
def CausesTracked (s : State) : Prop :=
  ∀ k : Channel,
    (s.chans[k].st = .normal → s.cyclePresent k = false) ∧ (s.chans[k].st ≠ .latched → s.latchPresent k = false)

/-- A channel that is not in CYCLE has persist count and starvation timer 0 (R60, R64, R68, R71), the latch-clear indication is
Pending exactly in CLEARING (R80), and between ticks no mark-seen or entered-CYCLE indication stands (R60). -/
def ChannelsTidy (s : State) : Prop :=
  ∀ k : Channel,
    (s.chans[k].st ≠ .cycle → s.chans[k].persist = 0 ∧ s.chans[k].timer = 0) ∧
    (s.chans[k].ind = .pending ↔ s.chans[k].st = .clearing) ∧
    (s.tick = none → s.chans[k].markSeen = false ∧ s.chans[k].enteredCycle = false)

/-- The unprotected records of a queue. -/
def unprotected (q : List Rec) : List Rec := q.filter fun r => !r.body.isProtected

/-- The journal holds at most 32 records and at most 28 unprotected ones (R110, R116). -/
def JournalFits (s : State) : Prop :=
  s.journal.queue.length ≤ Config.journalSlots ∧ (unprotected s.journal.queue).length ≤ Config.journalReserveAt

/-- A service level of 8 or above is the work of the top entry's critical source, and so for every saved level below it
(R132, R135, R136). -/
def LevelsFit : Level → List StackEntry → Prop
  | sl, [] => sl.val < 8
  | sl, e :: rest => (8 ≤ sl.val → isCritical e.source = true) ∧ LevelsFit e.savedSL rest

/-- The service stack holds at most 12 entries, and levels 8 to 11 belong to critical sources (R132, R134). -/
def StackFits (s : State) : Prop :=
  s.arb.stack.length ≤ Config.stackSlots ∧ LevelsFit s.arb.sl s.arb.stack

/-- No pending source has an effective level of 0 (R129). -/
def PendingNotifies (s : State) : Prop := ∀ src : Source, s.isPending src = true → 0 < (s.effLevel src).val

/-- The LNK condition holds exactly in LAPSED (R152), OW is never 0 (R148), and in OFF the token is 0 (R149). -/
def SupervisorFits (s : State) : Prop :=
  (s.wdg.lnk.isSome = true ↔ s.wdg.st = .lapsed) ∧ s.wdg.ow ≠ 0 ∧ (s.wdg.st = .off → s.wdg.token = 0)

/-- A contribution is held exactly while its conditioner is ASSERTED or RELEASING (R21, R23, R33), and a disabled line is
IDLE (R20, R28). -/
def ContributionsFit (s : State) : Prop :=
  (∀ k : LineNo, (s.lines[k].contrib.isSome = s.lines[k].cond.isActive) ∧
    (s.lines[k].cfg.enable = false → s.lines[k].cond = .idle)) ∧
  s.sup.contrib.isSome = s.sup.cond.isActive

/-- A counting conditioner is below its latched limit, so no limit of 0 is ever counted against (R21-R24). -/
def Cond.Counting : Cond → Prop
  | .idle => True
  | .qualifying n limit => n.toNat < limit.toNat
  | .asserted => True
  | .releasing n limit => n.toNat < limit.toNat

/-- Every conditioner's filter count is below its limit (R22, R24). -/
def CountsFit (s : State) : Prop :=
  (∀ k : LineNo, s.lines[k].cond.Counting) ∧ s.sup.cond.Counting ∧ s.safeIn.Counting

/-- Outside GOOD the timebase runs on BACKUP (R8, R9), and the recovery count is 0 outside RECOVERING and below 4096 in it
(R9, R10). -/
def ClockFits (s : State) : Prop :=
  (s.clk.mon ≠ .good →
    s.clk.src = .backup ∧ s.clk.toRef = false ∧ s.clk.handOffs.getLast? ≠ some .clear) ∧
  (s.clk.mon ≠ .recovering → s.clk.recovery = 0) ∧ s.clk.recovery < Config.recoveryLimit

/-- The words of the first `n` entries of a table. -/
def firstWords (t : Vector Entry 22) (n : Nat) : List Word := (t.toList.take n).flatMap fun e => [e.word0, e.word1]

/-- The scrubber's accumulator is the CRC of the active entries read so far, the reference CRC is that of the active table or
its complement, and a stopped scrubber stands as after a reset (R50, R54, R56). -/
def ScrubberFits (s : State) : Prop :=
  (s.staging.tableValid = false → s.scrub = Scrubber.reset) ∧
  (s.staging.tableValid = true →
    s.scrub.acc = crc16 (firstWords s.staging.actTab s.scrub.position.val) ∧
    (s.scrub.ref = crc16 (tableWords s.staging.actTab) ∨ s.scrub.ref = ~~~ crc16 (tableWords s.staging.actTab)))

/-- The outputs show the layers, the fixed levels and the Safe-Hold state of the present state (R91, R95). -/
def Shown (s : State) : Prop :=
  s.outs.layers = Vector.ofFn s.layerNow ∧ s.outs.level = byteOfLevels s.levelNow ∧ s.outs.nSafe = s.inHold

/-- Between ticks the outputs show the present state; what is left of a tick in progress is an end of the order of R13 and R14,
and once the outputs' item has run they show it too (R91, R95). -/
def OutputsShown (s : State) : Prop :=
  match s.tick with
  | none => Shown s
  | some t => t.left <:+ tickItems ∧ (.outputs ∈ t.left ∨ Shown s)

/-! ### Words of the statements -/

/-- The entry into LATCHED: counts 0, a clear that waits cancelled, the pulse left; a LATCHED channel stays as it is (R64, R65,
R80). -/
def latchEntry (c : Chan) : Chan :=
  match c.st with
  | .latched => c
  | .clearing => { c with st := .latched, persist := 0, timer := 0, ind := .cancelled }
  | _ => { c with st := .latched, persist := 0, timer := 0 }

/-- The entry into CYCLE: counts 0 and the entered-CYCLE indication, from NORMAL alone (R63, R66). -/
def cycleEntry (c : Chan) : Chan :=
  match c.st with
  | .normal => { c with st := .cycle, persist := 0, timer := 0, enteredCycle := true }
  | _ => c

/-- A channel after a contribution asserts: Latch latches, Cycle takes NORMAL to CYCLE, Safe latches on entry into Safe-Hold,
and nothing else changes it, its host-cycle pulse included (Table 2-3, R63-R66, R73). -/
def trippedTo (causes : BitVec 6) (x : Contribution) (k : Channel) (c : Chan) : Chan :=
  if x.cls = .safe ∧ causes = 0 then latchEntry c
  else if x.cls = .latch ∧ x.mask.getLsbD k.val = true then latchEntry c
  else if x.cls = .cycle ∧ x.mask.getLsbD k.val = true then cycleEntry c
  else c

/-- The journal before the Assert record of an assertion event: a SafeEntry record came first if the class is Safe and SOURCE
is new (R14, R99, R100). -/
def assertBase (s : State) (src : Source) (x : Contribution) : Journal :=
  if x.cls = .safe ∧ s.causes &&& 0x02 = 0 then
    (s.journal.offer ⟨.safeEntry .source (decide (s.causes = 0)), some src, 0, none, s.time.tstamp⟩).journal
  else s.journal

/-- The offer of the Assert record of an assertion event (R112, Table 7-1). -/
def assertOffer (s : State) (src : Source) (x : Contribution) : Offered :=
  (assertBase s src x).offer ⟨.assert x.level none, some src, x.mask, some x.cls, s.time.tstamp⟩

/-- The pending state of a source after an assertion event: one occurrence more if its level is above 0, with the seq of the
Assert record as first-seq if it was not pending and the record was stored (R125, R126, R128). -/
def assertPend (s : State) (src : Source) (x : Contribution) (record : Bool) : Option Pend :=
  if x.level = 0 then s.arb.pend[src]
  else
    match s.arb.pend[src] with
    | none => some ⟨1, if record then (assertOffer s src x).seq else none⟩
    | some p => some { p with count := satInc p.count }

/-- What an assertion event of a source leaves beside its own conditioner: the channels, the cause set, the journal and the
pending state as the captured contribution gives them (R29, Table 2-3); every block not named is as before. -/
def Asserts (src : Source) (x : Contribution) (record : Bool) (s t : State) : Prop :=
  (∀ k : Channel, t.chans[k] = trippedTo s.causes x k s.chans[k]) ∧
  t.causes = (if x.cls = .safe then s.causes ||| 0x02 else s.causes) ∧
  t.journal = (if record then (assertOffer s src x).journal else assertBase s src x) ∧
  t.arb.pend[src] = assertPend s src x record ∧
  (∀ b : Source, b ≠ src → b ≠ jth → t.arb.pend[b] = s.arb.pend[b]) ∧
  t.arb = { s.arb with pend := t.arb.pend }

/-- The journal before the Assert record of a raise of TBL or CLK: a SafeEntry record came first if the cause is new (R99, R100,
R145). -/
def raiseBase (s : State) (c : Cause) : Journal :=
  if s.causes &&& c.bits = 0 then
    (s.journal.offer ⟨.safeEntry c (decide (s.causes = 0)), none, 0, none, s.time.tstamp⟩).journal
  else s.journal

/-- The offer of the Assert record of a raise of TBL or CLK (R112, R145). -/
def raiseOffer (s : State) (src : Source) (c : Cause) (level : Level) : Offered :=
  (raiseBase s c).offer ⟨.assert level none, some src, 0xF, some .safe, s.time.tstamp⟩

/-- What a raise of a hard critical leaves on the channels, the cause set, the journal and the pending states (R99, R100, R127,
R128, R145); every block not named is as before. -/
def Raises (src : Source) (c : Cause) (level : Level) (s t : State) : Prop :=
  (∀ k : Channel, t.chans[k] = if s.causes = 0 then s.chans[k].latchCause else s.chans[k]) ∧
  t.causes = s.causes ||| c.bits ∧
  t.journal = (raiseOffer s src c level).journal ∧
  t.arb.pend[src] = some (match s.arb.pend[src] with
    | none => ⟨1, (raiseOffer s src c level).seq⟩
    | some p => { p with count := satInc p.count }) ∧
  (∀ b : Source, b ≠ src → b ≠ jth → t.arb.pend[b] = s.arb.pend[b]) ∧
  t.arb = { s.arb with pend := t.arb.pend }

/-- The contributions that assert in phase 2 of a tick on these samples: those of the lines, of SUP, and of LNK when the open
window ends (R22, R29, R33, R150, R152). -/
def State.assertedIn (s : State) (inp : Samples) : List Contribution :=
  allLines.filterMap (fun k =>
    if s.lineEvent k inp = .assertion then some (s.capture (lineSrc k) (levelOf s.staging.actTab[lineSrc k].level))
    else none) ++
  (if s.supEvent inp = .assertion then [s.capture supSrc 8] else []) ++
  (if s.wdg.st = .opened ∧ s.wdg.expires = true then [s.capture lnkSrc 9] else [])

/-- A conditioner's contribution after its event of a tick: captured at an assertion, dropped at a clear, held otherwise (R29,
R31). -/
def heldAfter (ev : CondEvent) (captured : Contribution) (before : Option Contribution) : Option Contribution :=
  match ev with
  | .assertion => some captured
  | .clear => none
  | _ => before

/-- The pending state of a source after a TABLE commit copied `tab`: discarded if the source is a line or HST and its new
active level is 0 (R52). JTH is left out, for the commit's own record can make it pending anew (R123). -/
def pendAfterTable (tab : Vector Entry 22) (src : Source) (p : Option Pend) : Option Pend :=
  if src.val < 18 ∧ tab[src].level = 0 then none else p

/-- How many sources a TABLE commit of `tab` discards (R52). -/
def discards (tab : Vector Entry 22) (s : State) : Nat :=
  (tableSources.filter fun src => s.isPending src && tab[src].level == 0).length

/-- What a TABLE commit leaves: the shadow copied, table-valid, the reference CRC, the scrubber restarted, the pending states
of level 0 discarded, each counted on CANCELCNT, and one CommitApplied record (R45, R50, R52). -/
def TableCommitted (s t : State) : Prop :=
  t = { s with
    staging := { s.staging with actTab := s.staging.shTab, tableValid := true }
    scrub := ⟨0, 0, 0xFFFF, crc16 (tableWords s.staging.shTab), s.scrub.tblCond⟩
    journal := (s.journal.offer ⟨.commitApplied .table, none, 0, none, s.time.tstamp⟩).journal
    arb := { s.arb with pend := t.arb.pend }
    counters := { s.counters with
      cancel := BitVec.ofNat 16 (min 0xFFFF (s.counters.cancel.toNat + discards s.staging.shTab s)) } } ∧
  ∀ src : Source, src ≠ jth → t.arb.pend[src] = pendAfterTable s.staging.shTab src s.arb.pend[src]

/-- What a CHANNEL commit leaves: the shadow block copied and one CommitApplied record (R45, R53). -/
def ChannelCommitted (k : Channel) (s t : State) : Prop :=
  t = { s with
    staging := { s.staging with actCh := s.staging.actCh.set k.val s.staging.shCh[k] k.isLt }
    journal := (s.journal.offer ⟨.commitApplied (.channel k), none, 0, none, s.time.tstamp⟩).journal
    arb := { s.arb with pend := t.arb.pend } } ∧
  ∀ src : Source, src ≠ jth → t.arb.pend[src] = s.arb.pend[src]

/-- The event that an event command is. -/
def eventOf : Instr → Option Event
  | .holdoffExpire => some holdoffExpireEvent
  | .lineAssert k => some (lineAssertEvent k)
  | .lineClear k => some (lineClearEvent k)
  | .supAssert => some supAssertEvent
  | .supClear => some supClearEvent
  | .safeInActive => some safeInActiveEvent
  | .safeInInactive => some safeInInactiveEvent
  | .mark k => some (markEvent k)
  | .escalatePersist k => some (persistEvent k)
  | .escalateStarved k => some (starveEvent k)
  | .armedCommitApply scope => some (armedCommitEvent scope)
  | .scrubRead => some scrubReadEvent
  | .scrubPassEnd => some scrubPassEvent
  | .clkRaise => some clkRaiseEvent
  | .clkClear => some clkClearEvent
  | .windowOpen => some windowOpenEvent
  | .lateViolation => some lateViolationEvent
  | .secondLapse => some secondLapseEvent
  | .tick _ | .refclkMissing | .refclkReturn | .refclkLostAgain | .clockRecovered | .refclkGoodPeriod | .por | .pinReset
  | .resetRelease _ | .pwmInputEdge _ _ _ | .frameError _ _ | .null _ | .read _ _ _ _ | .readSnapshot _ _
  | .write _ _ _ _ | .lineEnable _ _ _ | .lineDisable _ _ _ | .polarityChange _ _ _ | .shadowWrite _ _ _
  | .safepatWrite _ _ | .arbcfgWrite _ _ | .wdgcfgWrite _ _ | .jrnlCfgWrite _ _ | .accept _ _ | .done _ _
  | .setLevel _ _ | .holdoff _ _ | .cancel _ _ | .commit _ _ | .abortCommit _ _ | .clearLatch _ _ | .forceTrip _ _
  | .forceSafe _ _ | .exitSafe _ _ | .journalPop _ _ | .keepalive _ _ | .wdgArm _ _ | .lock _ _ | .unlock _ _
  | .confirm _ _ | .resetDevice _ _ | .selftest _ _ | .clearCounters _ _ | .clearCause _ _
  | .unknownActionCode _ _ _ => none

/-- The result of a WRITE of one word that its checks refuse with an outcome and a zero payload, or that stores its word. -/
def answerWrite (s t : State) (f : Frame) (addr : Byte) (refused : Option Byte) : State :=
  match refused with
  | some v => s.endConfirm.breakChain.storeResult 2 f.tag v Quad.zero
  | none => t.endConfirm.breakChain.storeResult 2 f.tag 0x00 ⟨addr, 1, 0, 0⟩

/-- The action code that the armed confirmation names, 0 if none is armed: payload byte 0 of NotConfirmed (R165). -/
def armedCode (s : State) : Byte :=
  match s.link.confirm with
  | some c => c.code
  | none => 0

/-- The bits of a writable register word that a write stores: the defined fields of its format (R18, R37, R40, R93, R133). -/
def Reg.storedBits : Reg → Word
  | .linemode _ => 0x0007
  | .arbcfg => 0x0001
  | .shtab _ false => 0x030F
  | .shtab _ true => 0x8007
  | .shch _ i => if i = 1 then 0x00FF else 0xFFFF
  | .safepat => 0x00FF
  | _ => 0xFFFF

/-! ### The Protective reset -/

/-- The journal after a Protective reset of `u`: its ResetMark record is offered, and then a SafeEntry record by Table 6-2, with
first = yes outside Safe-Hold, first = no if STARTUP is new, and none if STARTUP was a member (R103, R113, R171). -/
def protJournal (why : ProtCause) (u : State) : Journal :=
  let marked := (u.journal.offer ⟨.resetMark (.prot why), none, 0, none, u.time.tstamp⟩).journal
  if u.causes = 0 then (marked.offer ⟨.safeEntry .startup true, none, 0, none, u.time.tstamp⟩).journal
  else if u.causes.getLsbD 0 = false then
    (marked.offer ⟨.safeEntry .startup false, none, 0, none, u.time.tstamp⟩).journal
  else marked

/-- `t` is what a Protective reset makes of `u`, block by block; a block that is not named is kept (R171, summary of reset
effects; log entries 10, 12 and 29). JTH is pending afterwards exactly if one of the two records crossed the threshold,
and nothing else is. -/
def ProtReset (why : ProtCause) (u t : State) : Prop :=
  t = { u with
    time := { u.time with hold := 0, wmPrev := none }
    clk := if u.clk.toRef then { u.clk with src := .ref, toRef := false } else u.clk
    tick := none
    lines := t.lines
    sup := ⟨.idle, none⟩, safeIn := .idle
    staging := { u.staging with
      shTab := Vector.replicate 22 ⟨.latch, 0xF, 4, true⟩, actTab := Vector.replicate 22 ⟨.latch, 0xF, 4, true⟩
      tableValid := false, armedTable := none, armedCh := 0 }
    scrub := Scrubber.reset
    chans := Vector.replicate 4 ⟨.latched, 0, 0, false, .none, false, false⟩
    causes := u.causes ||| 0x01
    outs := ⟨Vector.replicate 8 .safe, u.safepat, true, t.outs.nIrq⟩
    journal := protJournal why u
    arb := { u.arb with pend := t.arb.pend, sl := 0, stack := [], hd := 0 }
    wdg := if u.wdg.st = .off then ⟨u.wdg.cw, u.wdg.ow, .off, 0, 0, 0, false, none⟩
      else ⟨u.wdg.cw, u.wdg.ow, .closed, 0, 0, u.wdg.cw, false, none⟩
    link := { u.link with
      result := ⟨0, 0, 0x0A, ⟨3, match why with | .conflict => 1 | .linkEscalation => 2, 0, 0⟩⟩, resultNew := true
      confirm := none, replay := none, chain := false, waiting := [], owed := false
      flight := u.link.flight.map fun q => { q with dead := true } }
    rstcause := ⟨.prot why, u.rstcause.sticky ||| 8⟩ } ∧
  (∀ k : LineNo, t.lines[k] = ⟨u.lines[k].cfg, .idle, none, 0⟩) ∧
  (∀ b : Source, b ≠ jth → t.arb.pend[b] = none) ∧
  t.arb.pend[jth] =
    (if u.journal.queue.length < u.journal.jt.val ∧ u.journal.jt.val ≤ t.journal.queue.length then some ⟨1, none⟩ else none) ∧
  (t.outs.nIrq = true ↔ ∃ src : Source, t.eligible src = true)

/-! ### What a register word shows -/

/-- A register word shows these fields, each given by its highest bit, its lowest bit and its value: every bit of a field is
that bit of its value, and every bit that no field names reads 0. -/
def Shows (w : Word) (fields : List (Nat × Nat × Nat)) : Prop :=
  ∀ i : Fin 16, w.getLsbD i.val =
    fields.any fun f => decide (f.2.1 ≤ i.val ∧ i.val ≤ f.1) && f.2.2.testBit (i.val - f.2.1)

/-- The number of a trip class (Table 3-1). -/
def classNumber : TripClass → Nat
  | .noTrip => 0
  | .cycle => 1
  | .latch => 2
  | .safe => 3

/-- A conditioner's state and filter count (Table 2-5, R35). -/
def condFields : Cond → List (Nat × Nat × Nat)
  | .idle => []
  | .qualifying n _ => [(9, 8, 1), (7, 0, n.toNat)]
  | .asserted => [(9, 8, 2)]
  | .releasing n _ => [(9, 8, 3), (7, 0, n.toNat)]

/-- The contribution format: all 0 when none is held (R35). -/
def contribFields : Option Contribution → List (Nat × Nat × Nat)
  | none => []
  | some x => [(15, 15, 1), (9, 8, classNumber x.cls), (7, 4, x.level.val), (3, 0, x.mask.toNat)]

/-- The number of a record's kind (Table 7-4). -/
def kindNumber : RecKind → Nat
  | .assert _ _ => 1
  | .clear _ => 2
  | .release _ => 3
  | .escalate _ => 4
  | .safeEntry _ _ => 5
  | .safeExit => 6
  | .commitApplied _ => 7
  | .resetMark _ => 8

/-- The bit of a cause (Table 6-1). -/
def causeNumber : Cause → Nat
  | .startup => 0
  | .source => 1
  | .table => 2
  | .clock => 3
  | .forced => 4
  | .input => 5

/-- The detail word of a record by its kind (Table 7-5). -/
def detailFields : RecKind → List (Nat × Nat × Nat)
  | .assert level hst =>
    [(3, 0, level.val), (9, 8, match hst with | none => 0 | some .cycle => 1 | some .latch => 2)]
  | .clear disabled => [(0, 0, disabled.toNat)]
  | .release persist => [(7, 0, persist.toNat)]
  | .escalate why => [(0, 0, match why with | .persist => 0 | .starved => 1)]
  | .safeEntry cause first => [(5, 0, 2 ^ causeNumber cause), (15, 15, first.toNat)]
  | .safeExit => []
  | .commitApplied scope => [(2, 0, match scope with | .table => 0 | .channel k => k.val + 1)]
  | .resetMark kind =>
    [(1, 0, match kind with | .por => 0 | .pin => 1 | .cmd => 2 | .prot _ => 3),
     (5, 4, match kind with | .prot .conflict => 1 | .prot .linkEscalation => 2 | _ => 0)]

/-- A record in the format of Table 7-4. -/
def recordFields (r : Rec) (i : Fin 6) : List (Nat × Nat × Nat) :=
  match i with
  | 0 => [(15, 0, r.seq.toNat)]
  | 1 =>
    [(15, 12, kindNumber r.body.kind), (11, 11, r.body.isProtected.toNat),
     (10, 6, match r.body.source with | some src => src.val | none => 31), (5, 5, r.body.cls.isSome.toNat),
     (4, 3, match r.body.cls with | some c => classNumber c | none => 0)]
  | 2 => [(15, 8, r.lost.toNat), (3, 0, r.body.channels.toNat)]
  | 3 => [(15, 0, r.body.stamp.toNat / 65536)]
  | 4 => [(15, 0, r.body.stamp.toNat % 65536)]
  | 5 => detailFields r.body.kind

/-- The number of an output layer (Table 5-1). -/
def layerNumber : Layer → Nat
  | .safe => 1
  | .latch => 2
  | .cycle => 3
  | .override => 4
  | .pwm => 5

/-- The number of an output action: Pass, Low or High (Table 3-3). -/
def actNumber : Act → Nat
  | .pass => 0
  | .low => 1
  | .high => 2

/-- The number of an override mode (Table 3-3). -/
def overrideNumber : Override → Nat
  | .none => 0
  | .low => 1
  | .high => 2

/-- A response table entry (Table 3-1). -/
def entryFields (e : Entry) (second : Bool) : List (Nat × Nat × Nat) :=
  if second then [(15, 15, e.record.toNat), (2, 0, e.level.val)] else [(9, 8, classNumber e.cls), (3, 0, e.mask.toNat)]

/-- A channel configuration block (Table 3-3). -/
def blockFields (c : ChanCfg) (i : Fin 3) : List (Nat × Nat × Nat) :=
  match i with
  | 0 =>
    [(15, 15, c.recordReleases.toNat), (14, 14, c.clearAtMark.toNat), (13, 12, overrideNumber c.overrideB),
     (11, 10, overrideNumber c.overrideA), (9, 8, actNumber c.latchB), (7, 6, actNumber c.latchA),
     (5, 4, actNumber c.cycleB), (3, 2, actNumber c.cycleA),
     (1, 0, match c.edge with | .rising => 0 | .falling => 1 | .both => 2)]
  | 1 => [(7, 0, c.ec.toNat)]
  | 2 => [(15, 0, c.mt.toNat)]

end Sys2Proof.Machine
end

