-- ==== Sys2Proof/Laws/Ops.lean ====
section
/-! SUPPORT. What each shared operation does to the blocks it touches, one lemma per operation and block. -/

namespace Sys2Proof.Machine

variable (s : State)

/-! ### Occurrences and records on the arbiter -/

@[simp] theorem State.occur_arb (src : Source) (q : Option Word) :
    (s.occur src q).arb.sl = s.arb.sl ∧ (s.occur src q).arb.stack = s.arb.stack ∧
    (s.occur src q).arb.hd = s.arb.hd ∧ (s.occur src q).arb.nestOff = s.arb.nestOff := by
  unfold State.occur; split <;> simp

theorem State.occur_pend_ne {a b : Source} (q : Option Word) (h : b ≠ a) :
    (s.occur a q).arb.pend[b.val] = s.arb.pend[b.val] := by
  unfold State.occur; split <;> simp only [State.setPend_get_ne _ _ h]

@[simp] theorem State.occur_pend (src : Source) (q : Option Word) :
    (s.occur src q).arb.pend[src.val] =
      some (match s.arb.pend[src.val] with
        | none => ⟨1, q⟩
        | some p => { p with count := satInc p.count }) := by
  unfold State.occur; split <;> simp_all

theorem State.occur_pending (a b : Source) (q : Option Word) :
    (s.occur a q).isPending b = (s.isPending b || decide (b = a)) := by
  unfold State.isPending
  by_cases h : b = a
  · subst h; simp
  · simp [State.occur_pend_ne s q h, h]

@[simp] theorem State.record_arb (b : RecBody) :
    (s.record b).arb.sl = s.arb.sl ∧ (s.record b).arb.stack = s.arb.stack ∧
    (s.record b).arb.hd = s.arb.hd ∧ (s.record b).arb.nestOff = s.arb.nestOff := by
  unfold State.record State.offer; dsimp only; split <;> simp

@[simp] theorem State.offer_arb (b : RecBody) :
    (s.offer b).1.arb.sl = s.arb.sl ∧ (s.offer b).1.arb.stack = s.arb.stack ∧
    (s.offer b).1.arb.hd = s.arb.hd ∧ (s.offer b).1.arb.nestOff = s.arb.nestOff := s.record_arb b

@[simp] theorem State.offer_journal (b : RecBody) : (s.offer b).1.journal = (s.journal.offer b).journal := by
  unfold State.offer; dsimp only; split <;> simp

@[simp] theorem State.record_journal (b : RecBody) : (s.record b).journal = (s.journal.offer b).journal :=
  s.offer_journal b

/-- An offer makes at most JTH pending, and only if the active JTH level is above 0 (R123). -/
theorem State.offer_pending (b : RecBody) (src : Source) :
    (s.offer b).1.isPending src = s.isPending src ∨
      ((s.offer b).1.isPending src = true ∧ src = jth ∧ s.effLevel jth ≠ 0) := by
  unfold State.offer
  dsimp only
  split
  · rename_i h
    rw [State.occur_pending]
    by_cases e : src = jth
    · right
      refine ⟨by simp [e], e, ?_⟩
      have := (Bool.and_eq_true _ _).mp h
      simpa [State.effLevel] using this.2
    · left
      simp [e, State.isPending]
  · exact .inl rfl

theorem State.record_pending (b : RecBody) (src : Source) :
    (s.record b).isPending src = s.isPending src ∨
      ((s.record b).isPending src = true ∧ src = jth ∧ s.effLevel jth ≠ 0) := s.offer_pending b src

/-- An offer leaves every pending state but JTH's (R123). -/
theorem State.offer_pend_ne (b : RecBody) {src : Source} (h : src ≠ jth) :
    (s.offer b).1.arb.pend[src.val] = s.arb.pend[src.val] := by
  unfold State.offer; dsimp only; split
  · rw [State.occur_pend_ne _ _ h]
  · rfl

theorem State.record_pend_ne (b : RecBody) {src : Source} (h : src ≠ jth) :
    (s.record b).arb.pend[src.val] = s.arb.pend[src.val] := s.offer_pend_ne b h

/-- An occurrence changes the arbiter's pending states alone (R128). -/
theorem State.occur_eq (src : Source) (q : Option Word) :
    s.occur src q = { s with arb := { s.arb with pend := (s.occur src q).arb.pend } } := by
  unfold State.occur; split <;> rfl

/-- An offer changes the journal and the pending states alone (R116, R123). -/
theorem State.offer_eq (b : RecBody) :
    (s.offer b).1 =
      { s with
        journal := (s.journal.offer b).journal
        arb := { s.arb with pend := (s.offer b).1.arb.pend } } := by
  unfold State.offer; dsimp only; split
  · rw [State.occur_eq]
  · rfl

theorem State.record_eq (b : RecBody) :
    s.record b =
      { s with
        journal := (s.journal.offer b).journal
        arb := { s.arb with pend := (s.record b).arb.pend } } := s.offer_eq b

/-! ### The journal -/

/-- Without an unprotected record there is nothing to evict (R117). -/
theorem evictOldest_none {q : List Rec} : evictOldest q = none ↔ ∀ r ∈ q, r.body.isProtected = true := by
  induction q with
  | nil => simp [evictOldest]
  | cons r rest ih =>
    unfold evictOldest
    split
    · simp_all
    · simp_all

/-- Eviction removes the first unprotected record and nothing else (R117). -/
theorem evictOldest_some {q q' : List Rec} (h : evictOldest q = some q') :
    ∃ before r after, q = before ++ r :: after ∧ q' = before ++ after ∧
      (∀ x ∈ before, x.body.isProtected = true) ∧ r.body.isProtected = false := by
  induction q generalizing q' with
  | nil => simp [evictOldest] at h
  | cons r rest ih =>
    unfold evictOldest at h
    split at h
    · rename_i hp
      cases e : evictOldest rest with
      | none => simp [e] at h
      | some q2 =>
        obtain ⟨b, x, a, h1, h2, h3, h4⟩ := ih e
        refine ⟨r :: b, x, a, by simp [h1], ?_, ?_, h4⟩
        · simp [e] at h; simp [← h, h2]
        · simpa [hp] using h3
    · cases h
      exact ⟨[], r, _, rfl, rfl, by simp, by simp_all⟩

/-! ### Channels -/

@[simp] theorem Chan.latchCause_st (c : Chan) : c.latchCause.st = .latched := by
  unfold Chan.latchCause; split <;> simp_all

@[simp] theorem Chan.enterCycle_st (c : Chan) : c.enterCycle.st = .cycle := rfl

/-- A cycle cause moves a NORMAL channel to CYCLE and no other (R63, R66). -/
theorem Chan.cycleCause_st (c : Chan) : c.cycleCause.st = if c.st = .normal then .cycle else c.st := by
  unfold Chan.cycleCause; split <;> simp_all

@[simp] theorem Chan.latchCause_pulse (c : Chan) : c.latchCause.pulse = c.pulse := by
  unfold Chan.latchCause; split <;> rfl

@[simp] theorem Chan.cycleCause_pulse (c : Chan) : c.cycleCause.pulse = c.pulse := by
  unfold Chan.cycleCause; split <;> rfl

@[simp] theorem Contribution.appearsOn_pulse (x : Contribution) (k : Channel) (c : Chan) :
    (x.appearsOn k c).pulse = c.pulse := by
  unfold Contribution.appearsOn; split
  · split <;> simp
  · rfl

/-- A channel's state after a cause appears: latched stays latched (R64, R66). -/
theorem Contribution.appearsOn_latched (x : Contribution) (k : Channel) (c : Chan) (h : c.st = .latched) :
    (x.appearsOn k c).st = .latched := by
  unfold Contribution.appearsOn; split
  · split <;> simp [Chan.cycleCause_st, h]
  · exact h

/-! ### Safe-Hold -/

/-- A cause joins the set, whatever stood there (R99, R100). -/
@[simp] theorem State.addCause_causes (c : Cause) (src : Option Source) :
    (s.addCause c src).causes = s.causes ||| c.bits := by
  unfold State.addCause
  split
  · rename_i h; simp [h]
  · split
    · simp
    · rename_i h
      revert h
      generalize s.causes = x
      cases c <;> (revert x; decide)

/-- Entering Safe-Hold latches every channel; a further cause leaves the channels (R65, R100). -/
@[simp] theorem State.addCause_chan (c : Cause) (src : Option Source) (k : Channel) :
    (s.addCause c src).chans[k.val] = if s.causes = 0 then s.chans[k.val].latchCause else s.chans[k.val] := by
  unfold State.addCause
  split
  · simp
  · split <;> simp

theorem Cause.bits_ne_zero (c : Cause) : c.bits ≠ 0 := by cases c <;> decide

theorem State.addCause_inHold (c : Cause) (src : Option Source) : (s.addCause c src).inHold = true := by
  simp only [State.inHold, State.addCause_causes]
  generalize s.causes = x
  cases c <;> (revert x; decide)

@[simp] theorem State.addCause_arb (c : Cause) (src : Option Source) :
    (s.addCause c src).arb.sl = s.arb.sl ∧ (s.addCause c src).arb.stack = s.arb.stack ∧
    (s.addCause c src).arb.hd = s.arb.hd ∧ (s.addCause c src).arb.nestOff = s.arb.nestOff := by
  unfold State.addCause; dsimp only; (repeat' split) <;> simp

/-- Adding a cause changes the set, the channels on entry, the journal and the pending states alone (R99, R100). -/
theorem State.addCause_eq (c : Cause) (src : Option Source) :
    s.addCause c src =
      { s with
        causes := s.causes ||| c.bits, chans := (s.addCause c src).chans, journal := (s.addCause c src).journal
        arb := { s.arb with pend := (s.addCause c src).arb.pend } } := by
  have h := s.addCause_causes c src
  rw [← h]
  unfold State.addCause
  dsimp only
  split
  · rw [State.record_eq]; rfl
  · split
    · rw [State.record_eq]
    · rfl

theorem State.addCause_pend_ne (c : Cause) (src : Option Source) {a : Source} (h : a ≠ jth) :
    (s.addCause c src).arb.pend[a.val] = s.arb.pend[a.val] := by
  unfold State.addCause; dsimp only; (repeat' split) <;> first | rfl | (rw [State.record_pend_ne _ _ h]; first | done | rfl)

/-- A new cause makes its SafeEntry record, an old one none (R100). -/
theorem State.addCause_journal (c : Cause) (src : Option Source) :
    (s.addCause c src).journal =
      if s.causes &&& c.bits = 0 then
        (s.journal.offer ⟨.safeEntry c (decide (s.causes = 0)), src, 0, none, s.time.tstamp⟩).journal
      else s.journal := by
  unfold State.addCause
  by_cases h : s.causes = 0
  · rw [if_pos h, if_pos (by rw [h]; exact BitVec.zero_and), decide_eq_true h, State.record_journal]; rfl
  · rw [if_neg h, decide_eq_false h]
    split
    · rw [State.record_journal]; rfl
    · rfl

/-! ### Assertions and drops -/

/-- The channels after an assertion (R62, R99). -/
theorem State.asserted_chan (src : Source) (x : Contribution) (b : Bool) (k : Channel) :
    (s.asserted src x b).chans[k.val] =
      if x.cls = .safe ∧ s.causes = 0 then (x.appearsOn k s.chans[k.val]).latchCause else x.appearsOn k s.chans[k.val] := by
  unfold State.asserted
  by_cases hs : x.cls = .safe <;> by_cases hc : s.causes = 0 <;> cases b <;> by_cases hl : x.level = 0 <;>
    simp [hs, hc, hl]

/-- The cause set after an assertion (R98). -/
theorem State.asserted_causes (src : Source) (x : Contribution) (b : Bool) :
    (s.asserted src x b).causes = if x.cls = .safe then s.causes ||| Cause.source.bits else s.causes := by
  unfold State.asserted
  by_cases hs : x.cls = .safe <;> cases b <;> by_cases hl : x.level = 0 <;> simp [hs, hl]

@[simp] theorem State.asserted_arb (src : Source) (x : Contribution) (b : Bool) :
    (s.asserted src x b).arb.sl = s.arb.sl ∧ (s.asserted src x b).arb.stack = s.arb.stack ∧
    (s.asserted src x b).arb.hd = s.arb.hd ∧ (s.asserted src x b).arb.nestOff = s.arb.nestOff := by
  unfold State.asserted
  by_cases hs : x.cls = .safe <;> cases b <;> by_cases hl : x.level = 0 <;> simp [hs, hl]

@[simp] theorem State.dropped_arb (src : Source) (x : Contribution) (a b : Bool) :
    (s.dropped src x a b).arb.sl = s.arb.sl ∧ (s.dropped src x a b).arb.stack = s.arb.stack ∧
    (s.dropped src x a b).arb.hd = s.arb.hd ∧ (s.dropped src x a b).arb.nestOff = s.arb.nestOff := by
  unfold State.dropped; split <;> simp

/-- An assertion changes the channels, the cause set, the journal and the pending states alone (R29, R33, R152). -/
theorem State.asserted_eq (src : Source) (x : Contribution) (b : Bool) :
    s.asserted src x b =
      { s with
        causes := (s.asserted src x b).causes, chans := (s.asserted src x b).chans
        journal := (s.asserted src x b).journal
        arb := { s.arb with pend := (s.asserted src x b).arb.pend } } := by
  unfold State.asserted
  by_cases hs : x.cls = .safe <;> cases b <;> by_cases hl : x.level = 0 <;> simp only [hs, hl, if_true, if_false] <;>
    (try rw [State.occur_eq]) <;> (try rw [State.offer_eq]) <;> (try rw [State.addCause_eq]) <;> rfl

theorem State.asserted_pend_ne (src : Source) (x : Contribution) (b : Bool) {a : Source} (h : a ≠ src) (hj : a ≠ jth) :
    (s.asserted src x b).arb.pend[a.val] = s.arb.pend[a.val] := by
  unfold State.asserted
  by_cases hs : x.cls = .safe <;> cases b <;> by_cases hl : x.level = 0 <;>
    simp [hs, hl, State.occur_pend_ne _ _ h, State.offer_pend_ne _ _ hj, State.addCause_pend_ne _ _ _ hj]

/-! ### The reset step -/

/-- What the records and recomputes of the reset step leave as its first steps set it (R171). -/
@[simp] theorem State.softReset_frame (kind : ResetKind) (cold : Bool) :
    let b := s.softResetBlocks kind cold
    let t := s.softReset kind cold
    t.time = b.time ∧ t.clk = b.clk ∧ t.tick = b.tick ∧ t.lines = b.lines ∧ t.sup = b.sup ∧ t.safeIn = b.safeIn ∧
    t.staging = b.staging ∧ t.scrub = b.scrub ∧ t.chans = b.chans ∧ t.causes = b.causes ∧ t.safepat = b.safepat ∧
    t.pins = b.pins ∧ t.wdg = b.wdg ∧ t.link = b.link ∧ t.counters = b.counters ∧ t.rstcause = b.rstcause ∧
    t.pending = b.pending ∧ t.arb.sl = b.arb.sl ∧ t.arb.stack = b.arb.stack ∧ t.arb.hd = b.arb.hd ∧
    t.arb.nestOff = b.arb.nestOff := by
  unfold State.softReset
  dsimp only
  split <;> simp

/-! ### Items taken -/

/-- What an item finds in a tick, if the event is due there. -/
theorem State.meets_of_reach {s s1 : State} {w : Option Samples} {e : Event} {inp : Samples} {l : List Item}
    (h : s.reach w e.item = some s1) (ht : s1.tick = some ⟨inp, l⟩) (hd : e.due inp s1 = true) : s.meets w e = some s1 := by
  simp [State.meets, h, ht, hd, Option.filter]

/-- An event that is due at its item: the item runs, and the tick stands at what is left after it (R13, R14). -/
theorem State.event_open {s s1 : State} {e : Event} {inp : Samples} (h : ItemOpen e inp s s1)
    (hd : e.due inp s1 = true) : s.event e = (s1.past.runItem inp (e.item s1)).st := by
  obtain ⟨h1, h2, rest, h3⟩ := h
  have hn : s1.runNext = (s1.past.runItem inp (e.item s1)).st := by simp [State.runNext, h3]
  rcases h2 with h2 | ⟨h2, h4⟩
  · simp [State.event, h1, State.meets_of_reach h2 h3 hd, hn]
  · simp [State.event, h1, h2, State.meets_of_reach h4 h3 hd, hn]

/-- An event that is due in neither tick changes nothing (log entry 16). -/
theorem State.event_none {s : State} {e : Event} (h : s.meets none e = none)
    (h2 : s.meets (some (s.driven e)) e = none) : s.event e = s := by
  simp [State.event, h, h2]

end Sys2Proof.Machine
end

