-- ==== Sys2Proof/Laws/Wire.lean ====
section
/-! SUPPORT. What the bytes of a frame are judged to be, what a transaction without anything in between shifts out, and what a
frame that is taken in phase 1 of the next tick leaves. -/

namespace Sys2Proof.Machine

/-! ### Bytes of good frames -/

@[simp] theorem headerByte_kind (kind : BitVec 2) (tag : BitVec 6) : (headerByte kind tag).extractLsb' 6 2 = kind := by
  revert kind tag; decide

@[simp] theorem headerByte_tag (kind : BitVec 2) (tag : BitVec 6) : (headerByte kind tag).extractLsb' 0 6 = tag := by
  revert kind tag; decide

/-- A frame whose CRC-8 stands at its expected place passes the frame checks, whatever fill follows (R156, R157). -/
theorem frameCheck_seal (body fill : List Byte) (h : expectedLength (sealFrame body ++ fill) = body.length + 1) :
    frameCheck (sealFrame body ++ fill) = none := by
  have hl : (sealFrame body ++ fill).length = body.length + 1 + fill.length := by simp [sealFrame]; omega
  have hg : (sealFrame body ++ fill).getD body.length 0 = crc8 body := by
    simp [sealFrame, List.getD_eq_getElem?_getD]
  have ht : (sealFrame body ++ fill).take body.length = body := by simp [sealFrame]
  unfold frameCheck
  dsimp only
  rw [h, hl, Nat.add_sub_cancel, hg, ht]
  simp only [if_true]
  split
  · omega
  · split
    · omega
    · rfl

theorem wordOf_bytes (w : Word) : wordOf (hiByte w) (loByte w) = w := by
  unfold wordOf hiByte loByte
  ext i hi
  simp only [BitVec.getElem_append, BitVec.getElem_extractLsb']
  split <;> simp_all

/-- Words that have travelled as bytes are the words (R156). -/
@[simp] theorem wordsOf_bytesOf (ws : List Word) : wordsOf (bytesOf ws) = ws := by
  induction ws with
  | nil => rfl
  | cons w rest ih => simp [bytesOf, wordsOf, ih, wordOf_bytes]

@[simp] theorem bytesOf_length (ws : List Word) : (bytesOf ws).length = 2 * ws.length := by
  induction ws with
  | nil => rfl
  | cons w rest ih => simp [bytesOf, ih]; omega

/-- The length that a WRITE's header and count byte announce (Table 10-1). -/
theorem expectedLength_write (tag : BitVec 6) (start count : Byte) (rest : List Byte) :
    expectedLength (headerByte 2 tag :: start :: count :: rest) = 4 + 2 * writeDataLength count := by
  have h : ¬ (headerByte 2 tag :: start :: count :: rest).length < 3 := by simp
  unfold expectedLength writeDataLength
  dsimp only
  rw [if_neg h]
  simp only [List.getD_cons_zero, headerByte_kind, List.getD_cons_succ]
  by_cases hn : 1 ≤ count.toNat ∧ count.toNat ≤ 16 <;> simp [hn]

theorem judge_null (tag : BitVec 6) (fill : List Byte) (snapped : Bool) : judge (nullBytes tag ++ fill) snapped = none := by
  have h : expectedLength (nullBytes tag ++ fill) = 1 + 1 := by simp [nullBytes, sealFrame, expectedLength]
  have hc := frameCheck_seal [headerByte 0 tag] fill h
  change frameCheck (nullBytes tag ++ fill) = none at hc
  simp only [judge, hc]
  simp [nullBytes, sealFrame, headerKind]

theorem judge_read (tag : BitVec 6) (start count : Byte) (fill : List Byte) (snapped : Bool) :
    judge (readBytes tag start count ++ fill) snapped = some (.read tag start count snapped) := by
  have h : expectedLength (readBytes tag start count ++ fill) = 3 + 1 := by simp [readBytes, sealFrame, expectedLength]
  have hc := frameCheck_seal [headerByte 1 tag, start, count] fill h
  change frameCheck (readBytes tag start count ++ fill) = none at hc
  simp only [judge, hc]
  simp [readBytes, sealFrame, headerKind, headerTag]

theorem judge_write (tag : BitVec 6) (start count : Byte) (data : List Word) (fill : List Byte) (snapped : Bool)
    (hd : data.length = writeDataLength count) :
    judge (writeBytes tag start count data ++ fill) snapped = some (.write tag start count data) := by
  have h : expectedLength (writeBytes tag start count data ++ fill) = ([headerByte 2 tag, start, count] ++ bytesOf data).length + 1 := by
    simp only [writeBytes, sealFrame, List.cons_append, List.nil_append, expectedLength_write, List.length_cons,
      bytesOf_length, hd]
    omega
  have hc := frameCheck_seal ([headerByte 2 tag, start, count] ++ bytesOf data) fill h
  change frameCheck (writeBytes tag start count data ++ fill) = none at hc
  have hn : ([headerByte 2 tag, start, count] ++ bytesOf data).length + 1 - 4 = (bytesOf data).length := by
    simp only [List.cons_append, List.nil_append, List.length_cons]; omega
  have hw : wordsOf (((writeBytes tag start count data ++ fill).drop 3).take (bytesOf data).length) = data := by
    simp only [writeBytes, sealFrame, List.cons_append, List.nil_append, List.drop_succ_cons, List.drop_zero,
      List.append_assoc, List.take_left', wordsOf_bytesOf]
  simp only [judge, hc, h, hn, hw]
  simp [writeBytes, sealFrame, headerKind, headerTag]

theorem judge_action (tag : BitVec 6) (code : Byte) (args : Quad) (fill : List Byte) (snapped : Bool) :
    judge (actionBytes tag code args ++ fill) snapped = some (.action tag code args) := by
  have h : expectedLength (actionBytes tag code args ++ fill) = 6 + 1 := by
    simp [actionBytes, sealFrame, expectedLength]
  have hc := frameCheck_seal [headerByte 3 tag, code, args.b0, args.b1, args.b2, args.b3] fill h
  change frameCheck (actionBytes tag code args ++ fill) = none at hc
  simp only [judge, hc]
  simp [actionBytes, sealFrame, headerKind, headerTag]

/-! ### A transaction without anything in between -/

/-- The bytes of a stream from a place on. -/
def streamFrom (l : List Byte) (i n : Nat) : List Byte := (List.range n).map fun j => l.getD (i + j) 0

theorem streamFrom_succ (l : List Byte) (i n : Nat) : streamFrom l i (n + 1) = l.getD i 0 :: streamFrom l (i + 1) n := by
  simp only [streamFrom, List.range_succ_eq_map, List.map_cons, List.map_map, Nat.add_zero, List.cons.injEq, true_and]
  exact List.map_congr_left fun j _ => by simp only [Function.comp]; congr 1; omega

@[simp] theorem carry_nil (n : Nat) (s : State) : carry n [] [] s = s := rfl

@[simp] theorem carry_cons (n : Nat) (b : Byte) (rest : List Byte) (s : State) :
    carry n (b :: rest) [] s = carry (n + 1) rest [] (s.clockByte b) := rfl

/-- The bytes clocked after the first one, with nothing in between (R158, R159). -/
theorem carry_rest (bytes : List Byte) : ∀ (n : Nat) (s : State) (q : Flight), s.link.flight = some q → q.sent ≠ [] →
    q.dead = false →
    carry n bytes [] s = { s with link := { s.link with
      flight := some { q with
        host := q.host ++ bytes, sent := q.sent ++ streamFrom q.stream q.sent.length bytes.length }
      resultNew := s.link.resultNew &&
        !(decide (q.sent.length ≤ 7 ∧ 7 < q.sent.length + bytes.length) && q.current) } } := by
  induction bytes with
  | nil =>
    intro n s q h hs hd
    have e : decide (q.sent.length ≤ 7 ∧ 7 < q.sent.length + 0) = false := decide_eq_false (by omega)
    have e2 : ({ q with host := q.host, sent := q.sent } : Flight) = q := rfl
    simp only [carry_nil, List.length_nil, streamFrom, List.range_zero, List.map_nil, List.append_nil, e,
      Bool.false_and, Bool.not_false, Bool.and_true]
    rw [e2, ← h]
  | cons b rest ih =>
    intro n s q h hs hd
    have hout : q.nextOut = q.stream.getD q.sent.length 0 := by simp [Flight.nextOut, hd]
    have hc : s.clockByte b = { s with link := { s.link with
        flight := some { q with host := q.host ++ [b], sent := q.sent ++ [q.nextOut] }
        resultNew := s.link.resultNew && !(q.sent.length == 7 && q.current && !q.dead) } } := by
      simp [State.clockByte, h, hs]
    have hi := ih (n + 1) (s.clockByte b) { q with host := q.host ++ [b], sent := q.sent ++ [q.nextOut] }
      (by rw [hc]) (by simp) hd
    have hl : (q.sent ++ [q.nextOut]).length = q.sent.length + 1 := by simp
    have hb : (s.link.resultNew && !(q.sent.length == 7 && q.current && !q.dead) &&
        !(decide (q.sent.length + 1 ≤ 7 ∧ 7 < q.sent.length + 1 + rest.length) && q.current)) =
        (s.link.resultNew && !(decide (q.sent.length ≤ 7 ∧ 7 < q.sent.length + (rest.length + 1)) && q.current)) := by
      by_cases h7 : q.sent.length = 7
      · cases q.current <;> simp [h7, hd]
      · have e : decide (q.sent.length + 1 ≤ 7 ∧ 7 < q.sent.length + 1 + rest.length) =
            decide (q.sent.length ≤ 7 ∧ 7 < q.sent.length + (rest.length + 1)) := decide_eq_decide.mpr (by omega)
        rw [e, beq_false_of_ne h7]
        simp
    have hstream : Flight.stream { q with host := q.host ++ [b], sent := q.sent ++ [q.nextOut] } = q.stream := rfl
    rw [carry_cons, hi, hc]
    simp only [hl, hstream, List.length_cons, streamFrom_succ, List.append_assoc, List.singleton_append, ← hout, hb]

/-- A transaction of at least one byte with nothing in between, from a moment when no tick is in progress and nCS is high: its
stream is the bytes 0 to 7 as they stood when nCS fell, and its end of byte 7 clears RESULT_NEW (R158, R159). -/
theorem transfer_quiet (s : State) (b : Byte) (rest : List Byte) (ht : s.tick = none) (hf : s.link.flight = none) :
    s.transfer (b :: rest) [] = { s with link := { s.link with
      flight := some ⟨b :: rest, s.statusByte, s.link.result, true,
        streamFrom (headBytes s.statusByte s.link.result) 0 (rest.length + 1), none, false⟩
      resultNew := s.link.resultNew && !decide (7 < rest.length + 1) } } := by
  have h1 : s.settle.take (b :: rest) = s.fall := by
    rw [s.settle_idle ht]; simp [State.take, hf]
  have h2 : s.fall.clocked = 0 := rfl
  have h3 : s.fall.clockByte b = { s with link := { s.link with
      flight := some ⟨[b], s.statusByte, s.link.result, true, [s.newFlight.nextOut], none, false⟩ } } := rfl
  have h4 := carry_rest rest 1 (s.fall.clockByte b)
    ⟨[b], s.statusByte, s.link.result, true, [s.newFlight.nextOut], none, false⟩ (by rw [h3]) (by simp) rfl
  unfold State.transfer
  dsimp only
  rw [h1, h2, List.drop_zero]
  rw [carry_cons, h4, h3]
  have e : s.newFlight.nextOut = (headBytes s.statusByte s.link.result).getD 0 0 := by
    simp [Flight.nextOut, State.newFlight, Flight.stream, headBytes]
  have e2 : Flight.stream ⟨[b], s.statusByte, s.link.result, true, [s.newFlight.nextOut], none, false⟩ =
      headBytes s.statusByte s.link.result := by simp [Flight.stream]
  have e3 : decide (1 ≤ 7 ∧ 7 < 1 + rest.length) = decide (7 < rest.length + 1) := decide_eq_decide.mpr (by omega)
  simp only [e2, streamFrom_succ, List.length_singleton, List.singleton_append, ← e, Bool.and_true, e3, Nat.zero_add]

/-! ### A frame that is taken in phase 1 of the next tick -/

/-- What a frame that is taken leaves: the state that phase 1 finds with the frame's transaction taken, if it is one (R3). -/
theorem State.send_lands {s s1 : State} {f : Frame} {bytes : List Byte} {q : Flight} (h : Lands f bytes q s s1) :
    s.send f bytes =
      match judge (bytes ++ f.fill) q.snapped with
      | some j => (s1.applyJudged j).st
      | none => s1 := by
  obtain ⟨hr, hd, hq, inp, u, hn, hu, ha⟩ := h
  have hj : q.judged (bytes ++ f.fill) = judge (bytes ++ f.fill) q.snapped := by simp [Flight.judged, hd]
  unfold State.send State.frame
  simp only [hr, Bool.false_eq_true, if_false, Frame.course, State.rise, hq, hj, hn, State.proceed, State.openTick, ← hu]
  cases judge (bytes ++ f.fill) q.snapped with
  | none =>
    simp only [State.await, ha, Progress.st_goes]
  | some j =>
    have hb : (((u.await (some j)).beginTick inp).noWaiting) = (u.beginTick inp).noWaiting := rfl
    have hw : (u.await (some j)).link.waiting = u.link.waiting ++ [j] := rfl
    rw [hb, hw, applyAll_append, ha]
    simp only [Progress.bind_goes, applyAll]
    cases s1.applyJudged j <;> rfl

/-- An ACTION that is taken and is no replay does what its code does (R164, R166). -/
theorem State.action_taken {s s1 : State} {f : Frame} {code : Byte} {args : Quad} (h : TakenAction f code args s s1) :
    s.action f code args = ((actByCode code s1.link.confirm args s1.endConfirm).settle f.tag code args).st := by
  obtain ⟨⟨q, h⟩, hr⟩ := h
  unfold State.action
  rw [State.send_lands h, judge_action]
  simp only [State.applyJudged, State.applyAction, hr]

/-- A WRITE that is taken stores its words or answers the first check that fails (R162). -/
theorem State.write_taken {s s1 : State} {f : Frame} {start count : Byte} {data : List Word}
    (hd : data.length = writeDataLength count) (h : Taken f (writeBytes f.tag start count data) s s1) :
    s.writeFrame f start count data = s1.applyWrite f.tag start count data := by
  obtain ⟨q, h⟩ := h
  unfold State.writeFrame
  rw [State.send_lands h, judge_write _ _ _ _ _ _ hd]
  rfl

/-- Only a READ has a snapshot that a boundary takes. -/
theorem Flight.due_kind {q : Flight} (h : headerKind q.host ≠ 1) : q.due = false := by
  simp only [Flight.due, beq_eq_false_iff_ne.mpr h, Bool.false_and]

theorem Flight.owes_kind {q : Flight} (h : headerKind q.host ≠ 1) : q.owes = false := by
  simp [Flight.owes, Flight.due_kind h]

/-- The state that phase 1 finds when a frame of `n` bytes that is no READ, with nothing in between, is taken in a tick on
these samples, from a moment when no tick is in progress, nCS is high and nothing waits. -/
def State.upAt (s : State) (inp : Samples) (n : Nat) : State :=
  { s with
    clk := s.clk.period
    time := { s.time with
      tstamp := s.time.tstamp + 1, supLow := inp.supLow, safeInPin := inp.safeIn
      hold := if s.link.owed then s.time.tstamp.extractLsb' 16 16 else s.time.hold }
    pins := { s.pins with inputs := inp }
    tick := some ⟨inp, tickItems⟩
    link := { s.link with
      owed := false
      resultNew := s.link.resultNew && !decide (7 < n)
      sdo := streamFrom (headBytes s.statusByte s.link.result) 0 n } }

/-- From a moment when no tick is in progress, nCS is high and nothing waits, a frame that is no READ, with nothing in between
and a next tick, is taken in that tick. -/
theorem Lands.quiet {s : State} {f : Frame} {inp : Samples} (b : Byte) (rest : List Byte) (hr : s.inReset = false)
    (ht : s.tick = none) (hf : s.link.flight = none) (hw : s.link.waiting = []) (hd : f.during = [])
    (hn : f.next = some inp) (hk : headerKind [b] ≠ 1) :
    Lands f (b :: rest) ⟨b :: rest ++ f.fill, s.statusByte, s.link.result, true,
      streamFrom (headBytes s.statusByte s.link.result) 0 ((b :: rest).length + f.fill.length), none, false⟩ s
      (s.upAt inp ((b :: rest).length + f.fill.length)) := by
  have hq := transfer_quiet s b (rest ++ f.fill) ht hf
  have hl : (rest ++ f.fill).length + 1 = (b :: rest).length + f.fill.length := by simp +arith
  rw [hl] at hq
  have ho : ∀ st r c sent w d, Flight.owes ⟨b :: (rest ++ f.fill), st, r, c, sent, w, d⟩ = false :=
    fun _ _ _ _ _ _ => Flight.owes_kind hk
  refine ⟨hr, rfl, by rw [hd, List.cons_append, hq], inp, _, hn, rfl, ?_⟩
  rw [hd, List.cons_append, hq]
  simp only [State.lift, ho, Bool.or_false, hw, applyAll,
    State.beginTick, State.snapshot, State.captureHold, Option.any_none, Option.map_none, State.noWaiting, State.upAt, hf]

end Sys2Proof.Machine
end

