-- ==== Sys2Proof/Certificates/Slice0/Obligations.lean ====
section
/-! DEFINITION. The statements for the provers. A statement about a command names the state `s1` that its phase 1 step or its
item finds (`Taken`, `TakenWord`, `TakenAction`, `ItemOpen`) and gives the next state whole: a block that the next state's
record update does not name is the block of `s1`, and `s1.past` is `s1` with its tick gone past the item. That a frame begins
the next tick (log entry 4) and that an event is an item taken by a command of its own (log entry 5) is the model's reading of
the command table. -/

open Sys2Proof Sys2Proof.Machine

/-! ### The machine -/

/-- A step takes the command at the front of the queue and runs it with the queue's rest; on an empty queue the block idles
(the model's queue, log entry 1). -/
def Obligations.StepTakesTheFrontCommand : Prop :=
  (∀ (c : Instr) (rest : List Instr) (s : State), step (s.withPending (c :: rest)) = exec c (s.withPending rest)) ∧
  (∀ s : State, s.pending = [] → step s = .next s)

/-- Every command answers a next state, in every state and on every operand, and leaves the queue as it was: the model reads
the manual so that nothing stops the block (log entry 16, DEDUCED). -/
def Obligations.EveryCommandAnswers : Prop :=
  ∀ (c : Instr) (s : State), ∃ t : State, exec c s = .next t ∧ t.pending = s.pending

/-! ### Invariants -/

/-- In Safe-Hold every channel is LATCHED, and every step keeps it so (R65, R100). -/
def Obligations.SafeHoldKeepsChannelsLatched : Prop :=
  ∀ s t : State, HoldLatches s → step s = .next t → HoldLatches t

/-- Every step keeps the channels in order: a NORMAL channel has no cause present and no channel outside LATCHED a latch
cause, counts are 0 outside CYCLE, Pending shows exactly in CLEARING, and no indication of a tick stands between ticks (R60,
R63, R64, R70, R71, R77, R80). -/
def Obligations.ChannelsStayInOrder : Prop :=
  ∀ s t : State, CausesTracked s ∧ ChannelsTidy s → step s = .next t → CausesTracked t ∧ ChannelsTidy t

/-- Every step keeps the journal within 32 records, 28 of them unprotected at most (R110, R116). -/
def Obligations.JournalStaysWithinItsSlots : Prop :=
  ∀ s t : State, JournalFits s → step s = .next t → JournalFits t

/-- Every step keeps the service stack within 12 entries and levels 8 to 11 to critical sources (R132, R134). -/
def Obligations.ServiceStackStaysFit : Prop :=
  ∀ s t : State, StackFits s → step s = .next t → StackFits t

/-- No step makes or leaves a pending source with effective level 0 (R129). -/
def Obligations.PendingSourcesKeepALevel : Prop :=
  ∀ s t : State, PendingNotifies s → step s = .next t → PendingNotifies t

/-- Every step keeps the LNK condition to LAPSED, OW above 0 and the token of OFF at 0 (R148, R149, R152). -/
def Obligations.SupervisorStaysFit : Prop :=
  ∀ s t : State, SupervisorFits s → step s = .next t → SupervisorFits t

/-- Every step keeps the conditioners in order: a contribution exactly while asserted, disabled lines IDLE, counts below
their limits (R20-R24, R28, R33). -/
def Obligations.ConditionersStayFit : Prop :=
  ∀ s t : State, ContributionsFit s ∧ CountsFit s → step s = .next t → ContributionsFit t ∧ CountsFit t

/-- Every step keeps the timebase on BACKUP outside GOOD, and the recovery count to RECOVERING and below 4096 (R8-R10). -/
def Obligations.ClockMonitorStaysFit : Prop :=
  ∀ s t : State, ClockFits s → step s = .next t → ClockFits t

/-- Every step keeps the scrubber's accumulator equal to the CRC of the entries read so far, and the reference CRC equal to
that of the active table or its complement (R50, R54, R56). -/
def Obligations.ScrubberTracksTheActiveTable : Prop :=
  ∀ s t : State, ScrubberFits s → step s = .next t → ScrubberFits t

/-- After every step that leaves no tick in progress, the outputs show the composition of the present state; and every step
leaves of a tick in progress an end of the order of R13 and R14 (R86-R91, R95). -/
def Obligations.OutputsShowTheStateBetweenTicks : Prop :=
  ∀ s t : State, OutputsShown s → step s = .next t → OutputsShown t

/-- The state right after reset meets every relation above. -/
def Obligations.ResetMeetsEveryRelation : Prop :=
  HoldLatches State.reset ∧ CausesTracked State.reset ∧ ChannelsTidy State.reset ∧ JournalFits State.reset ∧
  StackFits State.reset ∧ PendingNotifies State.reset ∧ SupervisorFits State.reset ∧ ContributionsFit State.reset ∧
  CountsFit State.reset ∧ ClockFits State.reset ∧ ScrubberFits State.reset ∧ OutputsShown State.reset

/-! ### The tick -/

/-- A TICK that begins at a boundary where nothing waits and no reset can arise runs its five phases in their order,
and this is all it does beside the records and the occurrences of its events: phase 1, TSTAMP and the samples (R2, R5);
phase 2, the conditioners with their contributions and glitch counters, SUP and SAFE_IN, the cause set, the window
timer, the scrubber's pacing, the clock monitor (R8, R20, R26, R29, R33, R34, R54, R98, R99, R150); phase 3, each
channel's mark (R12) and starvation check on what phase 2 left (R67-R72); phase 4, the armed commits (R47); phase 5,
outputs, nSAFE, nIRQ and holdoff (R91, R131, R138). The model's own readings in it: the gap count that a tick's
beginning moves (log entry 6), the samples that RAWIN takes at the tick's end (9), the return to REF (12), the standing
levels of the pins (23), the monitor state that exit condition (b) judges (26), and the TSTAMP capture of a READ that
has ended, with its order, behind `s.snapshot` (27, 28). -/
def Obligations.TickRunsItsFivePhases : Prop :=
  ∀ (inp : Samples) (s : State), s.inReset = false → s.tick = none → s.link.waiting = [] → s.wdg.st ≠ .lapsed →
    (s.staging.tableValid = false ∨ s.scrub.pacing.val < 63) → s.clk.period.handOffs = [] →
    (∀ k : Channel, s.chans[k].markSeen = false ∧ s.chans[k].enteredCycle = false) →
    ∃ t : State, exec (.tick inp) s = .next t ∧ t.tick = none ∧
      -- the beginning
      t.time = ⟨s.time.tstamp + 1, s.snapshot.time.hold, inp.fin, inp.supLow, inp.safeIn, some inp.wm⟩ ∧
      t.link = s.snapshot.link ∧ t.safepat = s.safepat ∧ t.pins = { s.pins with inputs := inp } ∧ t.rstcause = s.rstcause ∧
      t.pending = s.pending ∧
      -- phase 2
      (∀ k : LineNo, t.lines[k] =
        { s.lines[k] with
          cond := if s.lines[k].cfg.enable then
              (s.lines[k].cond.step s.lines[k].cfg.af s.lines[k].cfg.rf
                (s.lines[k].cfg.rawActive (inp.fin.getLsbD k.val))).1
            else s.lines[k].cond
          contrib := heldAfter (s.lineEvent k inp)
            ⟨s.staging.actTab[lineSrc k].cls, s.staging.actTab[lineSrc k].mask, levelOf s.staging.actTab[lineSrc k].level⟩
            s.lines[k].contrib
          glitch := if s.lineEvent k inp = .glitch then satInc s.lines[k].glitch else s.lines[k].glitch }) ∧
      t.sup = ⟨(s.sup.cond.step 15 255 inp.supLow).1, heldAfter (s.supEvent inp)
        ⟨s.staging.actTab[supSrc].cls, s.staging.actTab[supSrc].mask, 8⟩ s.sup.contrib⟩ ∧
      t.safeIn = (s.safeIn.step 7 7 (!inp.safeIn)).1 ∧
      t.causes = s.causes ||| (if ∃ x ∈ s.assertedIn inp, x.cls = .safe then 0x02 else 0) |||
        (if s.safeInEvent inp = .assertion then 0x20 else 0) ∧
      t.wdg = (match s.wdg.st with
        | .off => s.wdg
        | .closed =>
          if s.wdg.length.toNat * 1024 ≤ s.wdg.timerNow then
            { s.wdg with st := .opened, timer := 0, length := s.wdg.ow, fresh := false }
          else { s.wdg with timer := s.wdg.timerNow, fresh := false }
        | .opened =>
          if s.wdg.length.toNat * 1024 ≤ s.wdg.timerNow then
            { s.wdg with
              st := .lapsed, timer := 0, length := s.wdg.ow, fresh := false
              lnk := some ⟨s.staging.actTab[lnkSrc].cls, s.staging.actTab[lnkSrc].mask, 9⟩ }
          else { s.wdg with timer := s.wdg.timerNow, fresh := false }
        | .lapsed => t.wdg) ∧
      t.clk = ({ s.clk.period with seen := s.clk.period.mon } : ClockMon).endTick ∧
      -- phase 3
      (∀ (k : Channel) (c : Chan) (present : Bool), present = t.heldOn .cycle k →
        c = (if (s.causes = 0 ∧ t.causes ≠ 0) ∨
              ∃ x ∈ s.assertedIn inp, x.cls = .latch ∧ x.mask.getLsbD k.val = true then s.chans[k].latchCause
            else if ∃ x ∈ s.assertedIn inp, x.cls = .cycle ∧ x.mask.getLsbD k.val = true then s.chans[k].cycleCause
            else s.chans[k]) →
        t.chans[k].markSeen = false ∧ t.chans[k].enteredCycle = false ∧
        t.chans[k].pulse = (c.pulse && !s.hasMark k inp.wm) ∧
        ∀ u, u = t.chans[k] →
          (c.st = .normal ∨ c.st = .latched → (u.st, u.persist, u.timer, u.ind) = (c.st, c.persist, c.timer, c.ind)) ∧
          (c.st = .cycle → s.hasMark k inp.wm = true → u.ind = c.ind ∧
            (u.st, u.persist, u.timer) =
              if present = false then (.normal, 0, 0)
              else if s.staging.actCh[k].ec ≠ 0 ∧ s.staging.actCh[k].ec.toNat ≤ (satInc c.persist).toNat then
                (.latched, 0, 0)
              else (.cycle, satInc c.persist, 0)) ∧
          (c.st = .clearing → s.hasMark k inp.wm = true → u.ind = .none ∧
            (u.st, u.persist, u.timer) = if present then (.cycle, 0, 0) else (.normal, c.persist, c.timer)) ∧
          (c.st = .clearing → s.hasMark k inp.wm = false →
            (u.st, u.persist, u.timer, u.ind) = (.clearing, c.persist, c.timer, c.ind)) ∧
          (c.st = .cycle → s.hasMark k inp.wm = false → u.ind = c.ind ∧
            ∀ n, n = (if c.enteredCycle then c.timer else satInc c.timer) →
              (u.st, u.persist, u.timer) =
                if s.staging.actCh[k].mt ≠ 0 ∧ s.staging.actCh[k].mt.toNat * 16 ≤ n.toNat then (.latched, 0, 0)
                else (.cycle, c.persist, n))) ∧
      -- phase 4
      (∀ applied : Bool, (applied = true ↔ ∃ m, s.staging.armedTable = some m ∧ s.hasMark m inp.wm = true) →
        t.staging.armedTable = (if applied then none else s.staging.armedTable) ∧
        t.staging.actTab = (if applied then s.staging.shTab else s.staging.actTab) ∧
        t.staging.tableValid = (s.staging.tableValid || applied) ∧
        t.scrub = (if applied then ⟨0, 0, 0xFFFF, crc16 (tableWords s.staging.shTab), s.scrub.tblCond⟩
          else if s.staging.tableValid then { s.scrub with pacing := s.scrub.pacing + 1 } else s.scrub) ∧
        (applied = false → t.counters = s.counters)) ∧
      (∀ (k : Channel) (applied : Bool), applied = (s.staging.armedCh.getLsbD k.val && s.hasMark k inp.wm) →
        t.staging.armedCh.getLsbD k.val = (s.staging.armedCh.getLsbD k.val && !applied) ∧
        t.staging.actCh[k] = if applied then s.staging.shCh[k] else s.staging.actCh[k]) ∧
      t.staging.shTab = s.staging.shTab ∧ t.staging.shCh = s.staging.shCh ∧ t.staging.locked = s.staging.locked ∧
      -- phase 5
      t.outs.layers = Vector.ofFn t.layerNow ∧ t.outs.level = byteOfLevels t.levelNow ∧ t.outs.nSafe = t.inHold ∧
      (t.outs.nIrq = true ↔ ∃ src : Source, t.eligibleWith (s.arb.hd != 0) src = true) ∧
      t.arb = { s.arb with pend := t.arb.pend, hd := if s.arb.hd = 0 then 0 else s.arb.hd - 1 }

/-- HOLDOFF_EXPIRE at HD 1 takes HD to 0 and changes nothing else (R138, R139). -/
def Obligations.HoldoffExpires : Prop :=
  ∀ (inp : Samples) (s s1 : State), ItemOpen holdoffExpireEvent inp s s1 → s1.arb.hd = 1 →
    exec .holdoffExpire s = .next { s1.past with arb := { s1.arb with hd := 0 } }

/-! ### Conditioners -/

/-- LINE_ASSERT, due on a raw-active sample with AF 0 in IDLE or with the count one below its limit, captures the active entry
and acts by it (R21, R22, R29). -/
def Obligations.LineAssertCapturesAndTrips : Prop :=
  ∀ (k : LineNo) (inp : Samples) (s s1 : State), ItemOpen (lineAssertEvent k) inp s s1 →
    s1.lines[k].cfg.enable = true → s1.lines[k].cfg.rawActive (inp.fin.getLsbD k.val) = true →
    ((s1.lines[k].cond = .idle ∧ s1.lines[k].cfg.af = 0) ∨ ∃ n, s1.lines[k].cond = .qualifying n (n + 1)) →
    ∃ t : State, exec (.lineAssert k) s = .next t ∧
      t = { s1.past with
        lines := t.lines, chans := t.chans, causes := t.causes, journal := t.journal, arb := t.arb } ∧
      (∀ j : LineNo, j ≠ k → t.lines[j] = s1.lines[j]) ∧
      ∀ e x, e = s1.staging.actTab[lineSrc k] → x = Contribution.mk e.cls e.mask (levelOf e.level) →
        t.lines[k] = { s1.lines[k] with cond := .asserted, contrib := some x } ∧ Asserts (lineSrc k) x e.record s1 t

/-- LINE_CLEAR, due on a raw-inactive sample with RF 0 in ASSERTED or with the count one below its limit, drops the
contribution, moves no channel and makes the Clear record if the Record-clear flag is on (R23, R24, R31). -/
def Obligations.LineClearDropsTheContribution : Prop :=
  ∀ (k : LineNo) (inp : Samples) (s s1 : State), ItemOpen (lineClearEvent k) inp s s1 →
    s1.lines[k].cfg.enable = true → s1.lines[k].cfg.rawActive (inp.fin.getLsbD k.val) = false →
    ((s1.lines[k].cond = .asserted ∧ s1.lines[k].cfg.rf = 0) ∨ ∃ n, s1.lines[k].cond = .releasing n (n + 1)) →
    ∃ t : State, exec (.lineClear k) s = .next t ∧
      t = { s1.past with
        lines := t.lines, journal := t.journal, arb := { s1.arb with pend := t.arb.pend } } ∧
      t.lines[k] = { s1.lines[k] with cond := .idle, contrib := none } ∧
      (∀ j : LineNo, j ≠ k → t.lines[j] = s1.lines[j]) ∧
      (∀ b : Source, b ≠ jth → t.arb.pend[b] = s1.arb.pend[b]) ∧
      t.journal = (match s1.lines[k].contrib with
        | some x =>
          if s1.lines[k].cfg.recordClear then
            (s1.journal.offer ⟨.clear false, some (lineSrc k), x.mask, none, s1.time.tstamp⟩).journal
          else s1.journal
        | none => s1.journal)

/-- SUP_ASSERT captures class and mask from the SUP entry at level 8, always with its record and occurrence; SUP_CLEAR drops
the contribution with a Clear record (R32, R33). -/
def Obligations.SupplyDroopAssertsAndClears : Prop :=
  (∀ (inp : Samples) (s s1 : State) (n : Byte), ItemOpen supAssertEvent inp s s1 →
    s1.sup.cond = .qualifying n (n + 1) → inp.supLow = true →
    ∃ t : State, exec .supAssert s = .next t ∧
      t = { s1.past with
        sup := t.sup, chans := t.chans, causes := t.causes, journal := t.journal, arb := t.arb } ∧
      ∀ x, x = Contribution.mk s1.staging.actTab[supSrc].cls s1.staging.actTab[supSrc].mask 8 →
        t.sup = ⟨.asserted, some x⟩ ∧ Asserts supSrc x true s1 t) ∧
  (∀ (inp : Samples) (s s1 : State) (n : Byte) (x : Contribution),
    ItemOpen supClearEvent inp s s1 → s1.sup = ⟨.releasing n (n + 1), some x⟩ → inp.supLow = false →
    ∃ t : State, exec .supClear s = .next t ∧
      t = { s1.past with
        sup := ⟨.idle, none⟩, journal := t.journal, arb := { s1.arb with pend := t.arb.pend } } ∧
      (∀ b : Source, b ≠ jth → t.arb.pend[b] = s1.arb.pend[b]) ∧
      t.journal = (s1.journal.offer ⟨.clear false, some supSrc, x.mask, none, s1.time.tstamp⟩).journal)

/-- SAFE_IN_ACTIVE adds cause INPUT, entering Safe-Hold and latching every channel if the set was empty; SAFE_IN_INACTIVE
changes the conditioner alone (R34, R98-R100). -/
def Obligations.SafeInActsOnSafeHoldAlone : Prop :=
  (∀ (inp : Samples) (s s1 : State) (n : Byte), ItemOpen safeInActiveEvent inp s s1 →
    s1.safeIn = .qualifying n (n + 1) → inp.safeIn = false →
    ∃ t : State, exec .safeInActive s = .next t ∧
      t = { s1.past with
        safeIn := .asserted, chans := t.chans, causes := s1.causes ||| 0x20, journal := t.journal
        arb := { s1.arb with pend := t.arb.pend } } ∧
      (∀ k : Channel, t.chans[k] = if s1.causes = 0 then s1.chans[k].latchCause else s1.chans[k]) ∧
      (∀ b : Source, b ≠ jth → t.arb.pend[b] = s1.arb.pend[b]) ∧
      t.journal =
        (if s1.causes &&& 0x20 = 0 then
          (s1.journal.offer ⟨.safeEntry .input (decide (s1.causes = 0)), none, 0, none, s1.time.tstamp⟩).journal
        else s1.journal)) ∧
  (∀ (inp : Samples) (s s1 : State) (n : Byte), ItemOpen safeInInactiveEvent inp s s1 →
    s1.safeIn = .releasing n (n + 1) → inp.safeIn = true →
    exec .safeInInactive s = .next { s1.past with safeIn := .idle })

/-- A line that is active from IDLE asserts in the tick of its (L+1)-th consecutive active sample, L the filter latched on
entry, and not before (R21, R22, R25: a later value of AF changes nothing). -/
def Obligations.AssertFilterTakesItsLatchedLength : Prop :=
  ∀ (af rf : Byte) (n : Nat) (later : Nat → Byte × Byte), n < af.toNat →
    (List.range n).foldl (fun (c : Cond) i => (c.step (later i).1 (later i).2 true).1)
        (Cond.idle.step af rf true).1 = .qualifying (BitVec.ofNat 8 n) af ∧
    (Cond.step (.qualifying (BitVec.ofNat 8 n) af) (later n).1 (later n).2 true =
      if n + 1 = af.toNat then (.asserted, .assertion) else (.qualifying (BitVec.ofNat 8 (n + 1)) af, .none)) ∧
    (Cond.step (.qualifying (BitVec.ofNat 8 n) af) (later n).1 (later n).2 false = (.idle, .glitch))

/-! ### Channels at marks -/

/-- MARK on channel k: the pulse ends, and the channel releases, survives, escalates or completes its clear as its state and
causes give; the other channels and every other block are as before (R67-R70, R74, R75). -/
def Obligations.MarkActsByTripState : Prop :=
  ∀ (k : Channel) (inp : Samples) (s s1 : State) (before : Bool),
    ItemOpen (markEvent k) inp s s1 → s1.prevMark k = some before →
    s1.staging.actCh[k].edge.isMark before (inp.wm.getLsbD k.val) = true →
    ∃ t : State, exec (.mark k) s = .next t ∧
      t = { s1.past with
        chans := t.chans, journal := t.journal, arb := { s1.arb with pend := t.arb.pend } } ∧
      (∀ j : Channel, j ≠ k → t.chans[j] = s1.chans[j]) ∧
      (∀ b : Source, b ≠ jth → t.arb.pend[b] = s1.arb.pend[b]) ∧
      t.chans[k].pulse = false ∧ t.chans[k].markSeen = true ∧
      ∀ c cfg present, c = s1.chans[k] → cfg = s1.staging.actCh[k] → present = s1.heldOn .cycle k →
        (c.st = .normal ∨ c.st = .latched → t.chans[k].st = c.st ∧ t.journal = s1.journal) ∧
        (c.st = .cycle → present = false →
          t.chans[k].st = .normal ∧ t.chans[k].persist = 0 ∧ t.chans[k].timer = 0 ∧
          t.journal = if cfg.recordReleases then
            (s1.journal.offer ⟨.release c.persist, none, maskOf k, none, s1.time.tstamp⟩).journal else s1.journal) ∧
        (c.st = .cycle → present = true → (cfg.ec = 0 ∨ (satInc c.persist).toNat < cfg.ec.toNat) →
          t.chans[k].st = .cycle ∧ t.chans[k].persist = satInc c.persist ∧ t.chans[k].timer = 0 ∧
          t.journal = s1.journal) ∧
        (c.st = .cycle → present = true → cfg.ec ≠ 0 → cfg.ec.toNat ≤ (satInc c.persist).toNat →
          t.chans[k].st = .latched ∧ t.chans[k].persist = 0 ∧ t.chans[k].timer = 0 ∧
          t.journal = (s1.journal.offer ⟨.escalate .persist, none, maskOf k, none, s1.time.tstamp⟩).journal) ∧
        (c.st = .clearing →
          t.chans[k].st = (if present then .cycle else .normal) ∧ t.chans[k].ind = .none ∧
          t.journal = if cfg.recordReleases then
            (s1.journal.offer ⟨.release 0, none, maskOf k, none, s1.time.tstamp⟩).journal else s1.journal)

/-- ESCALATE_PERSIST at the mark that reaches EC, and ESCALATE_STARVED when the timer reaches MT × 16, latch channel k with
counts of 0 and an Escalate record, and touch no other channel (R69, R72, R75). -/
def Obligations.EscalationsLatch : Prop :=
  (∀ (k : Channel) (inp : Samples) (s s1 : State), ItemOpen (persistEvent k) inp s s1 →
    s1.hasMark k inp.wm = true → s1.chans[k].st = .cycle → s1.heldOn .cycle k = true →
    s1.staging.actCh[k].ec ≠ 0 → s1.staging.actCh[k].ec.toNat ≤ (satInc s1.chans[k].persist).toNat →
    ∃ t : State, exec (.escalatePersist k) s = .next t ∧
      t = { s1.past with
        chans := t.chans, journal := (s1.journal.offer ⟨.escalate .persist, none, maskOf k, none, s1.time.tstamp⟩).journal,
        arb := { s1.arb with pend := t.arb.pend } } ∧
      t.chans[k] = { s1.chans[k] with st := .latched, persist := 0, timer := 0, pulse := false, markSeen := true } ∧
      (∀ j : Channel, j ≠ k → t.chans[j] = s1.chans[j]) ∧ (∀ b : Source, b ≠ jth → t.arb.pend[b] = s1.arb.pend[b])) ∧
  (∀ (k : Channel) (inp : Samples) (s s1 : State), ItemOpen (starveEvent k) inp s s1 →
    s1.hasMark k inp.wm = false → s1.chans[k].st = .cycle →
    s1.chans[k].markSeen = false → s1.chans[k].enteredCycle = false → s1.staging.actCh[k].mt ≠ 0 →
    s1.staging.actCh[k].mt.toNat * 16 ≤ (satInc s1.chans[k].timer).toNat →
    ∃ t : State, exec (.escalateStarved k) s = .next t ∧
      t = { s1.past with
        chans := t.chans, journal := (s1.journal.offer ⟨.escalate .starved, none, maskOf k, none, s1.time.tstamp⟩).journal,
        arb := { s1.arb with pend := t.arb.pend } } ∧
      t.chans[k] = { s1.chans[k] with st := .latched, persist := 0, timer := 0 } ∧
      (∀ j : Channel, j ≠ k → t.chans[j] = s1.chans[j]) ∧ (∀ b : Source, b ≠ jth → t.arb.pend[b] = s1.arb.pend[b]))

/-! ### Commits and the scrubber -/

/-- ARMED_COMMIT_APPLY after the mark of the armed channel: the scope is idle and its commit has applied, a TABLE commit with
the discards of R52 counted on CANCELCNT (R47, R50, R52). -/
def Obligations.ArmedCommitAppliesAtItsMark : Prop :=
  (∀ (inp : Samples) (s s1 : State) (m : Channel), ItemOpen (armedCommitEvent .table) inp s s1 →
    s1.staging.armedTable = some m → s1.chans[m].markSeen = true →
    ∃ t : State, exec (.armedCommitApply .table) s = .next t ∧
      TableCommitted { s1.past with staging := { s1.staging with armedTable := none } } t) ∧
  (∀ (inp : Samples) (k : Channel) (s s1 : State), ItemOpen (armedCommitEvent (.channel k)) inp s s1 →
    s1.staging.armedCh.getLsbD k.val = true → s1.chans[k].markSeen = true →
    ∃ t : State, exec (.armedCommitApply (.channel k)) s = .next t ∧
      ChannelCommitted k { s1.past with
        staging := { s1.staging with armedCh := s1.staging.armedCh &&& ~~~(maskOf k) } } t)

/-- The scrubber's read feeds the entry at its position into the accumulator; the read of entry 21 ends the pass, which
acts on the TBL condition by Table 3-4 and starts the next: a raise adds cause TABLE, stores its SafeEntry and Assert
records and makes TBL pending, and one that meets an unserved CLK ends, those records kept, in a Protective reset with
cause Conflict (R54, R55, R145, R147). What that reset leaves is given whole, `ProtReset`: its own records by R171 and
Table 6-2, and every block of the summary of reset effects. That RAWIN and the INSTAT samples stay in it is log entry
10 (DESIGN CHOICE), that a return to REF that waits is made in it is log entry 12 (DEDUCED), and that a supervisor with
CW 0 stays CLOSED in it is log entry 29 (DEDUCED). -/
def Obligations.ScrubberReadsAndEndsItsPass : Prop :=
  ∀ (inp : Samples) (s s1 : State) (acc : Word), ItemOpen scrubReadEvent inp s s1 →
    s1.staging.tableValid = true → s1.scrub.pacing.val = 63 →
    acc = crc16Word (crc16Word s1.scrub.acc s1.staging.actTab[s1.scrub.position].word0)
      s1.staging.actTab[s1.scrub.position].word1 →
    (∀ h : s1.scrub.position.val + 1 < 22,
      exec .scrubRead s = .next { s1.past with
        scrub := ⟨⟨s1.scrub.position.val + 1, h⟩, 0, acc, s1.scrub.ref, s1.scrub.tblCond⟩ }) ∧
    (s1.scrub.position.val = 21 → exec .scrubRead s = exec .scrubPassEnd s) ∧
    (s1.scrub.position.val = 21 → (acc = s1.scrub.ref ↔ s1.scrub.tblCond = false) →
      exec .scrubPassEnd s = .next { s1.past with scrub := ⟨0, 0, 0xFFFF, s1.scrub.ref, s1.scrub.tblCond⟩ }) ∧
    (s1.scrub.position.val = 21 → acc = s1.scrub.ref → s1.scrub.tblCond = true →
      ∃ t : State, exec .scrubPassEnd s = .next t ∧
        t = { s1.past with
          scrub := ⟨0, 0, 0xFFFF, s1.scrub.ref, false⟩
          journal := (s1.journal.offer ⟨.clear false, some tblSrc, 0xF, none, s1.time.tstamp⟩).journal
          arb := { s1.arb with pend := t.arb.pend } } ∧
        ∀ b : Source, b ≠ jth → t.arb.pend[b] = s1.arb.pend[b]) ∧
    (s1.scrub.position.val = 21 → acc ≠ s1.scrub.ref → s1.scrub.tblCond = false → s1.unserved clkSrc = false →
      ∃ t : State, exec .scrubPassEnd s = .next t ∧ Raises tblSrc .table 10 s1 t ∧
        t = { s1.past with
          scrub := ⟨0, 0, 0xFFFF, s1.scrub.ref, true⟩
          causes := t.causes, chans := t.chans, journal := t.journal, arb := t.arb }) ∧
    (s1.scrub.position.val = 21 → acc ≠ s1.scrub.ref → s1.scrub.tblCond = false → s1.unserved clkSrc = true →
      ∃ t : State, exec .scrubPassEnd s = .next t ∧ ProtReset .conflict
        { s1 with causes := s1.causes ||| 0x04, journal := (raiseOffer s1 tblSrc .table 10).journal } t)

/-! ### The clock monitor -/

/-- The monitor's transitions: a loss in GOOD selects BACKUP and hands off a raise, the first edge begins RECOVERING, a
further loss returns to LOST without a hand-off, a good period counts, and the 4096th goes to GOOD with a clear handed off;
in GOOD an edge returns the gap count to 0 (R7-R10). Each comes after the tick in progress and changes the monitor alone. That
each row carries its backup periods is log entry 6, and that a loss ends a return to REF at the tick's end is log entry 12
(both DEDUCED). -/
def Obligations.ClockMonitorTransitions : Prop :=
  (∀ s u : State, u = s.settle → u.clk.mon = .good → exec .refclkMissing s = .next { u with
    clk := { u.clk with mon := .lost, src := .backup, gap := 32, recovery := 0,
                        handOffs := u.clk.handOffs ++ [.raise], toRef := false } }) ∧
  (∀ s u : State, u = s.settle → u.clk.mon = .lost → exec .refclkReturn s = .next { u with
    clk := { u.clk with mon := .recovering, gap := 0, recovery := 0 } }) ∧
  (∀ s u : State, u = s.settle → u.clk.mon = .recovering → exec .refclkLostAgain s = .next { u with
    clk := { u.clk with mon := .lost, gap := 32, recovery := 0 } }) ∧
  (∀ s u : State, u = s.settle → u.clk.mon = .recovering → u.clk.recovery < 4095 →
    exec .refclkGoodPeriod s = .next { u with clk := { u.clk with gap := 0, recovery := u.clk.recovery + 1 } }) ∧
  (∀ s u : State, u = s.settle → u.clk.mon = .recovering → 4095 ≤ u.clk.recovery →
    ∀ c, c = Instr.clockRecovered ∨ c = .refclkGoodPeriod →
    exec c s = .next { u with
      clk := { u.clk with mon := .good, gap := 0, recovery := 0, handOffs := u.clk.handOffs ++ [.clear] } }) ∧
  (∀ s u : State, u = s.settle → u.clk.mon = .good →
    exec .refclkGoodPeriod s = .next { u with clk := { u.clk with gap := 0 } })

/-- CLK_RAISE adds cause CLOCK, stores its SafeEntry and Assert records and makes CLK pending; CLK_CLEAR ends the
condition with a Clear record, and the source is REF again when that tick has ended (log entry 12, DEDUCED); a raise
that finds TBL unserved ends, its records kept, in a Protective reset with cause Conflict, which `ProtReset` gives
whole (R8, R10, R145, R147, R171; log entry 10, DESIGN CHOICE, for RAWIN and the INSTAT samples, log entry 29, DEDUCED,
for a supervisor with CW 0). -/
def Obligations.ClockHandOffsAct : Prop :=
  (∀ (inp : Samples) (s s1 : State), ItemOpen clkRaiseEvent inp s s1 →
    s1.clk.handOffs = [.raise] → s1.unserved tblSrc = false →
    ∃ t : State, exec .clkRaise s = .next t ∧ Raises clkSrc .clock 11 s1 t ∧
      t = { s1.past with
        clk := { s1.clk with handOffs := [], seen := s1.clk.mon, cond := true, toRef := false }
        causes := t.causes, chans := t.chans, journal := t.journal, arb := t.arb }) ∧
  (∀ (inp : Samples) (s s1 : State), ItemOpen clkClearEvent inp s s1 →
    s1.clk.handOffs = [.clear] →
    ∃ t : State, exec .clkClear s = .next t ∧ t.settle.clk.src = .ref ∧
      t = { s1.past with
        clk := { s1.clk with handOffs := [], seen := s1.clk.mon, cond := false, toRef := true }
        journal := (s1.journal.offer ⟨.clear false, some clkSrc, 0xF, none, s1.time.tstamp⟩).journal
        arb := { s1.arb with pend := t.arb.pend } } ∧
      ∀ b : Source, b ≠ jth → t.arb.pend[b] = s1.arb.pend[b]) ∧
  (∀ (inp : Samples) (s s1 : State), ItemOpen clkRaiseEvent inp s s1 →
    s1.clk.handOffs = [.raise] → s1.unserved tblSrc = true →
    ∃ t : State, exec .clkRaise s = .next t ∧ ProtReset .conflict
      { s1 with
        clk := { s1.clk with handOffs := [], seen := s1.clk.mon, cond := true, toRef := false }
        causes := s1.causes ||| 0x08, journal := (raiseOffer s1 clkSrc .clock 11).journal } t)

/-! ### The keepalive supervisor -/

/-- WINDOW_OPEN, LATE_VIOLATION and SECOND_LAPSE, each due when the window timer reaches its latched length: OPEN with
OW latched; LAPSED with LNK raised at level 9; a Protective reset with cause LinkEscalation (R150, R152, R154). What
that reset leaves is given whole, `ProtReset`: the ResetMark record and the SafeEntry record of Table 6-2's three PROT
cases, nothing pending but a JTH that these records crossed, SL, stack and HD cleared with NEST_OFF kept, both table
copies and the armed commits reset with the channel blocks kept, SUP and SAFE_IN idle, the host link and RSTCAUSE, and
the outputs (R19, R39, R40, R49, R60, R103, R127, R132-R134, R138, R149, R168, R171, R173). Its readings that are the
model's: RAWIN and the INSTAT samples stay (log entry 10, DESIGN CHOICE), a return to REF that waits is made in it (log
entry 12, DEDUCED), and with CW 0 the supervisor stays CLOSED in it (log entry 29, DEDUCED). -/
def Obligations.KeepaliveWindowsEnd : Prop :=
  (∀ (inp : Samples) (s s1 : State), ItemOpen windowOpenEvent inp s s1 → s1.wdg.st = .closed →
    s1.wdg.length.toNat * 1024 ≤ s1.wdg.timerNow →
    exec .windowOpen s = .next { s1.past with
      wdg := { s1.wdg with st := .opened, timer := 0, length := s1.wdg.ow, fresh := false } }) ∧
  (∀ (inp : Samples) (s s1 : State), ItemOpen lateViolationEvent inp s s1 → s1.wdg.st = .opened →
    s1.wdg.length.toNat * 1024 ≤ s1.wdg.timerNow →
    ∃ t : State, exec .lateViolation s = .next t ∧
      t = { s1.past with
        wdg := t.wdg, chans := t.chans, causes := t.causes, journal := t.journal, arb := t.arb } ∧
      ∀ x, x = Contribution.mk s1.staging.actTab[lnkSrc].cls s1.staging.actTab[lnkSrc].mask 9 →
        t.wdg = { s1.wdg with st := .lapsed, timer := 0, length := s1.wdg.ow, fresh := false, lnk := some x } ∧
        Asserts lnkSrc x true s1 t) ∧
  (∀ (inp : Samples) (s s1 : State), ItemOpen secondLapseEvent inp s s1 → s1.wdg.st = .lapsed →
    s1.wdg.length.toNat * 1024 ≤ s1.wdg.timerNow →
    ∃ t : State, exec .secondLapse s = .next t ∧ ProtReset .linkEscalation s1 t)

/-! ### Resets and pins -/

/-- POR and PIN set every block as the summary gives, but for the pins, the queue and what RSTCAUSE and the ResetNotice
say; a PIN while a reset lasts changes its pin alone; RESET_RELEASE ends its condition (R169, R170, R173). The model's
own choices in it: RAWIN and the samples of INSTAT are 0 (log entry 8, DESIGN CHOICE), a reset lasts while either of
its two conditions holds (log entry 11, DEDUCED), a transaction in flight is over and the bytes it shifted out stay
(log entry 14, DEDUCED), and a POR while the supply is low already sets every block again (log entry 30, DESIGN
CHOICE). -/
def Obligations.PowerAndPinResets : Prop :=
  (∀ s : State, exec .por s = .next { State.reset with
    pins := { s.pins with supplyLow := true }, pending := s.pending
    link := { State.reset.link with sdo := s.link.sdo } }) ∧
  (∀ s : State, s.inReset = false → exec .pinReset s = .next { State.reset with
    pins := { s.pins with nrstLow := true }, pending := s.pending
    link := { State.reset.link with result := ⟨0, 0, 0x0A, ⟨1, 0, 0, 0⟩⟩, sdo := s.link.sdo }
    rstcause := ⟨.pin, s.rstcause.sticky ||| 2⟩ }) ∧
  (∀ s : State, s.inReset = true → exec .pinReset s = .next { s with pins := { s.pins with nrstLow := true } }) ∧
  (∀ s : State, exec (.resetRelease .supply) s = .next { s with pins := { s.pins with supplyLow := false } }) ∧
  (∀ s : State, exec (.resetRelease .nrst) s = .next { s with pins := { s.pins with nrstLow := false } })

/-- PWM_INPUT_EDGE sets one PWM pin to its level, the other seven and everything else stay: an output under layer 5
shows the new level at once, and every other output keeps its own (R90, R91). -/
def Obligations.PwmEdgeReachesItsOutput : Prop :=
  ∀ (k : Channel) (side : Side) (level : Bool) (s : State),
    ∃ t : State, exec (.pwmInputEdge k side level) s = .next t ∧ t = { s with pins := t.pins } ∧
      t.pins = { s.pins with pa := t.pins.pa, pb := t.pins.pb } ∧
      (∀ j : Channel,
        t.pins.pa.getLsbD j.val = (if side = .a ∧ j = k then level else s.pins.pa.getLsbD j.val) ∧
        t.pins.pb.getLsbD j.val = (if side = .b ∧ j = k then level else s.pins.pb.getLsbD j.val)) ∧
      ∀ i : Fin 8, t.outLevel i =
        if s.outs.layers[i] = .pwm ∧ i.val = (match side with | .a => k.val | .b => k.val + 4) then level
        else s.outLevel i

/-- While a POR or PIN lasts no tick runs and the link does not respond: every command but the resets, the clock monitor's
own and the PWM edges changes nothing (R168, R170). An event command never changes what its tick amounts to: it either changes
nothing, or what it leaves, the tick run to its end, is the tick run without it, so the items keep the one order of R13 and R14
(R13, R14, R16, R47, R54). An event that is due in neither tick changes nothing (the model's, log entries 5, 16 and 23). -/
def Obligations.NothingRunsInResetOrOutOfOrder : Prop :=
  (∀ (c : Instr) (e : Event) (s t : State), eventOf c = some e → exec c s = .next t →
    t = s ∨ t.settle = s.settle ∨ exec (.tick (s.driven e)) s = .next t.settle) ∧
  (∀ (c : Instr) (e : Event) (s : State), eventOf c = some e → s.meets none e = none →
    s.meets (some (s.driven e)) e = none → exec c s = .next s) ∧
  ∀ (c : Instr) (s : State), s.inReset = true →
    match c with
    | .por => True
    | .pinReset => True
    | .resetRelease _ => True
    | .pwmInputEdge _ _ _ => True
    | .refclkMissing => True
    | .refclkReturn => True
    | .refclkLostAgain => True
    | .refclkGoodPeriod => True
    | .clockRecovered => True
    | c => exec c s = .next s

/-! ### The host link -/

/-- A host transaction is its bytes, and its bytes are judged as the command that they spell; without a next tick it
ends with what it shifted out, its transaction goes behind those that wait and no tick is in progress, so the first tick
that begins afterwards takes it (R3, R156, R158). A transaction that a reset has abandoned is not judged (R168). The
model's own choices: that FRAME_ERROR with bytes that pass the frame checks is the transaction they spell is log entry
17 (DESIGN CHOICE), that a tick in progress ends before nCS falls and what happens while nCS is low happens between
bytes log entry 3 (DESIGN CHOICE, unsafe), and that a command may end before the next tick log entry 4. -/
def Obligations.JudgedTransactionsWait : Prop :=
  (∀ (c : Instr) (f : Frame) (bytes : List Byte) (s : State), frameOf c = some (f, bytes) →
    exec c s = exec (.frameError (bytes ++ f.fill) f.course) s) ∧
  (∀ (c : Instr) (f : Frame) (bytes : List Byte) (snapped : Bool), frameOf c = some (f, bytes) → c.wf = true →
    judge (bytes ++ f.fill) snapped = transactionOf snapped c) ∧
  (∀ (bytes : List Byte) (during : List Mid) (s u : State) (q : Flight), s.inReset = false →
    u = s.transfer bytes during → u.link.flight = some q →
    ∃ t : State, exec (.frameError bytes ⟨during, none⟩) s = .next t ∧ t.tick = none ∧
      t = { u with link := { u.link with
        flight := none, sdo := q.sent
        waiting := u.link.waiting ++ if q.dead then [] else (judge bytes q.snapped).toList
        owed := u.link.owed || q.owes } } ∧
      ∀ inp : Samples, exec (.frameError bytes ⟨during, some inp⟩) s = .next (t.openTick inp).st)

/-- A replay is not executed: it answers the remembered outcome plus 0x40 with the remembered payload, and ends an armed
confirmation. An ACTION with a nonzero tag that was executed is remembered, so that its resend is a replay (R164). -/
def Obligations.ReplaysAreNotExecuted : Prop :=
  (∀ (c : Instr) (f : Frame) (code : Byte) (args : Quad) (s s1 : State) (r : Replay),
    frameOf c = some (f, actionBytes f.tag code args) → Taken f (actionBytes f.tag code args) s s1 →
    s1.link.replayOf f.tag code args = some r →
    exec c s = .next { s1 with link := { s1.link with
      confirm := none, result := ⟨3, f.tag, 0x40 + r.outcome, r.payload⟩, resultNew := true
      flight := s1.link.flight.map fun q => { q with current := false } } }) ∧
  (∀ (s : State) (f : Frame) (code : Byte) (args : Quad) (v : Verdict) (p : Quad), f.tag ≠ 0 →
    (s.answered f code args v p).link.replayOf f.tag code args = some ⟨f.tag, code, args, v.byte, p⟩) ∧
  (∀ (l : Link) (code : Byte) (args : Quad), l.replayOf 0 code args = none)

/-- A NULL with nothing in between sends the status byte, the result record and their CRC-8 as they stood when nCS fell, and
then zeros; it applies nothing: RESULT_NEW is cleared once byte 7 has gone out, the result record, the confirmation and the
replay chain stay (R158, R163). That the tick in progress ends first is log entry 3, that nCS is high before it log entry 13
(DESIGN CHOICES). The status byte, bit by bit (R159). -/
def Obligations.NullFetchesTheResultAgain : Prop :=
  (∀ (f : Frame) (s u : State) (n : Nat) (head : List Byte), s.inReset = false → u = s.settle → u.link.flight = none →
    f.during = [] → n = 2 + f.fill.length →
    head = [u.statusByte, u.link.result.kind ++ u.link.result.tag, u.link.result.outcome, u.link.result.payload.b0,
      u.link.result.payload.b1, u.link.result.payload.b2, u.link.result.payload.b3] →
    exec (.null f) s = .next (({ u with link := { u.link with
      sdo := (List.range n).map fun i => (head ++ [crc8 head]).getD i 0
      resultNew := u.link.resultNew && !decide (8 ≤ n) } } : State).proceed f.next)) ∧
  ∀ (s : State) (i : Fin 8), s.statusByte.getLsbD i.val =
    if i = 7 then s.outs.nIrq
    else if i = 6 then decide (s.causes ≠ 0)
    else if i = 5 then s.staging.locked
    else if i = 4 then decide (s.journal.queue ≠ [])
    else if i = 3 then decide (s.clk.src = .backup)
    else if i = 2 then s.link.confirm.isSome
    else if i = 1 then decide (s.arb.hd ≠ 0)
    else s.link.resultNew

/-- The two frame checks, and what a failing frame does. Fewer bytes than expected is FrameShort; else a CRC byte unlike the
CRC-8 of the bytes before it is FrameCrc; a frame whose CRC agrees passes whatever fill follows; no byte is no transaction.
A failing frame executes nothing: ERRCNT rises, its result is stored with the header's kind and tag, and the confirmation,
the replay memory and every other block stay (R156, R157, R175). -/
def Obligations.FrameErrorsAreJudgedAndCounted : Prop :=
  (∀ bytes : List Byte, 0 < bytes.length → bytes.length < expectedLength bytes →
    frameCheck bytes = some (true, ⟨BitVec.ofNat 8 bytes.length, BitVec.ofNat 8 (expectedLength bytes), 0, 0⟩)) ∧
  (∀ (body fill : List Byte) (crc : Byte), expectedLength (body ++ crc :: fill) = body.length + 1 →
    frameCheck (body ++ crc :: fill) =
      if crc = crc8 body then none
      else some (false, ⟨crc, crc8 body, BitVec.ofNat 8 (body.length + 1), 0⟩)) ∧
  frameCheck [] = none ∧
  (∀ (f : Frame) (bytes : List Byte) (short : Bool) (p : Quad) (q : Flight) (s s1 : State), f.fill = [] →
    frameCheck bytes = some (short, p) → Lands f bytes q s s1 →
    exec (.frameError bytes f.course) s = .next { s1 with
      counters := { s1.counters with err := satInc s1.counters.err }
      link := { s1.link with
        result := ⟨headerKind bytes, headerTag bytes, if short then 0x03 else 0x02, p⟩, resultNew := true
        flight := s1.link.flight.map fun q => { q with current := false } } })

/-- READ_SNAPSHOT takes all words of a legal range at one boundary, with TSTAMP's high half captured first if TSTAMP_LO
is among them or a READ that has ended still owes its capture (R4, R6, R161). The READ that carries it on sends the
status byte, the record and the CRC-8, then the snapshot with its CRC-8, then zeros (R158, R161); it answers OK, with
payload byte 2 = 1 if no boundary falls in time, and a range that fails its checks answers their outcome. A boundary
falls in time if it comes before stream byte 8 begins, with 4 to 7 bytes clocked; a READ that ends with 4 to 7 bytes
clocked gets the next one, and then makes its capture there, even if it is judged FrameCrc (R4, R6). The model's own:
that a READ is carried to its boundary by a command of its own is log entry 13 and that the tick in progress ends before
nCS falls log entry 3 (DESIGN CHOICES), that payload byte 2 is 0 for a READ whose boundary comes after the rise of nCS
log entry 27, that an owed capture comes before a snapshot at the same boundary log entry 28, and that the bytes of
BadAddress that R161 does not state are 0 log entry 25 (DEDUCED). -/
def Obligations.ReadsAreSnapshots : Prop :=
  (∀ (f : Frame) (start count : Byte) (s u : State), s.inReset = false → u = s.settle → u.link.flight = none →
    f.during = [] → rangeCheck start count = none →
    ∃ (t : State) (ws : List Word), exec (.readSnapshot f ⟨start, count⟩) s = .next t ∧
      ws = (regsOf start count).map (fun r => r.read t) ∧
      t = { u with
        time := { u.time with
          hold := if start = 0 ∨ u.link.owed = true then u.time.tstamp.extractLsb' 16 16 else u.time.hold }
        link := { u.link with
          owed := false
          flight := some ⟨readBytes f.tag start count, u.statusByte, u.link.result, true,
            (headBytes u.statusByte u.link.result).take 4, some ws, false⟩ } } ∧
      ∀ (g : Frame) (q : Flight) (s1 : State), g.tag = f.tag → g.during = [] →
        Lands g (readBytes g.tag start count) q t s1 →
        q.words = some ws ∧ q.sent = (List.range (4 + g.fill.length)).map fun i =>
          (headBytes u.statusByte u.link.result ++ dataBytes ws).getD i 0) ∧
  (∀ (f : Frame) (start count : Byte) (inTime : Option Samples) (q : Flight) (s s1 : State),
    Lands (f.tickAfter 4 inTime) (readBytes f.tag start count) q s s1 →
    exec (.read f start count inTime) s =
      .next (match rangeCheck start count with
        | some (v, p) => s1.endConfirm.breakChain.storeResult 1 f.tag v.byte p
        | none => s1.endConfirm.breakChain.storeResult 1 f.tag 0x00 ⟨start, count, if q.snapped then 0 else 1, 0⟩)) ∧
  (∀ (f : Frame) (start count : Byte) (inTime : Option Samples) (q : Flight) (s s1 : State),
    s.settle.link.flight = none → rangeCheck start count = none →
    Lands (f.tickAfter 4 inTime) (readBytes f.tag start count) q s s1 →
    (inTime.isSome = true → q.words.isSome = true) ∧
    (inTime = none → f.during = [] → q.words = none ∧ (q.snapped = true ↔ f.fill.length < 4)) ∧
    ∀ (n m : Nat) (inp : Samples), inTime = none → f.during = [⟨n, .tick inp⟩] → m = min n (4 + f.fill.length) →
      (q.words.isSome = true ↔ 4 ≤ m ∧ m < 8) ∧ (q.snapped = true ↔ (4 ≤ m ∧ m < 8) ∨ f.fill.length < 4)) ∧
  (∀ (f : Frame) (bytes : List Byte) (q : Flight) (s s1 u : State), u = s.settle → u.link.flight = none →
    u.link.waiting = [] → f.during = [] → bytes.length = 4 → headerKind bytes = 1 →
    rangeCheck (bytes.getD 1 0) (bytes.getD 2 0) = none → Lands f bytes q s s1 →
    s1.time.hold = if (bytes.getD 1 0 = 0 ∧ f.fill.length < 4) ∨ u.link.owed = true then
      u.time.tstamp.extractLsb' 16 16 else u.time.hold)

/-- A WRITE is all or nothing: the first failing check stores its outcome and no word; a WRITE that passes every check
stores every word, and either way the confirmation ends and the replay chain breaks (R162, R164, R165). That JT is
judged on its whole word is log entry 21 (DEDUCED, unsafe); the data words are as many as the count announces (log entry
18). The bytes of an answer that R162 and R161 do not state are 0 by log entry 25 (DEDUCED). -/
def Obligations.WritesAreAllOrNothing : Prop :=
  ∀ (f : Frame) (start count : Byte) (data : List Word) (s s1 : State), data.length = writeDataLength count →
    Taken f (writeBytes f.tag start count data) s s1 →
    ∀ s2, s2 = s1.endConfirm.breakChain →
      (∀ v p, s2.writeCheck start count data = some (v, p) →
        exec (.write f start count data) s = .next (s2.storeResult 2 f.tag v.byte p)) ∧
      (s2.writeCheck start count data = none →
        exec (.write f start count data) s = .next
          (((writeWords start count data).foldl (fun t x => x.2.1.store x.2.2 t) s2).storeResult 2 f.tag 0x00
            ⟨start, count, 0, 0⟩)) ∧
      ((s2.writeCheck start count data).isSome = true ↔
        (rangeCheck start count).isSome = true ∨
        (∃ x ∈ writeWords start count data,
          x.2.1.writable = false ∨ (s2.staging.locked = true ∧ x.2.1.lockable = true) ∨
          (s2.busyMark x.2.1).isSome = true ∨ x.2.1.rangeBad x.2.2 = true ∨
          (s2.inHold = true ∧ x.2.1 = .safepat) ∨ (s2.arb.stack ≠ [] ∧ x.2.1 = .arbcfg) ∨
          (x.2.1 = .wdgcfg ∧ loByte x.2.2 = 0) ∨ (x.2.1 = .jrnlCfg ∧ 32 < x.2.2.toNat)))

/-- LINE_ENABLE, LINE_DISABLE and POLARITY_CHANGE are the WRITE of LINEMODEk: Locked refuses it; else Enable off to on
clears the glitch counter, on to off drops a held contribution with a Clear record marked disabled, and a change of
polarity alone changes only the configuration (R18, R27, R28). That each of the three rows is the WRITE of any word,
which acts by its own bits whichever row carries it, is log entry 19 (DEDUCED); the bytes of an OK answer that R162 does
not state are 0 by log entry 25 (DEDUCED). -/
def Obligations.LineModeWrites : Prop :=
  ∀ (f : Frame) (k : LineNo) (w : Word) (s s1 : State) (c : Instr), TakenWord f (lineModeAddr k) w s s1 →
    c = .lineEnable f k w ∨ c = .lineDisable f k w ∨ c = .polarityChange f k w →
    ∀ l cfg, l = s1.lines[k] →
      cfg = { l.cfg with enable := w.getLsbD 0, activeLow := w.getLsbD 1, recordClear := w.getLsbD 2 } →
      (s1.staging.locked = true → exec c s = .next (answerWrite s1 s1 f (lineModeAddr k) (some 0x07))) ∧
      (s1.staging.locked = false → w.getLsbD 0 = true →
        exec c s = .next (answerWrite s1
          (s1.setLine k { l with cfg := cfg, glitch := if l.cfg.enable then l.glitch else 0 }) f (lineModeAddr k) none)) ∧
      (s1.staging.locked = false → w.getLsbD 0 = false → l.cond = .idle →
        exec c s = .next (answerWrite s1 (s1.setLine k { l with cfg := cfg }) f (lineModeAddr k) none)) ∧
      (s1.staging.locked = false → w.getLsbD 0 = false → ∀ n limit, l.cond = .qualifying n limit →
        exec c s = .next (answerWrite s1 (s1.setLine k { l with cfg := cfg, cond := .idle }) f (lineModeAddr k) none)) ∧
      (s1.staging.locked = false → w.getLsbD 0 = false → l.cond.isActive = true → ∀ x, l.contrib = some x →
        exec c s = .next (answerWrite s1
          ((s1.setLine k { l with cfg := cfg, cond := .idle, contrib := none }).record
            ⟨.clear true, some (lineSrc k), x.mask, none, s1.time.tstamp⟩) f (lineModeAddr k) none))

/-- SHADOW_WRITE is the WRITE of its words. One word of SHTAB is refused with Locked, or with ShadowBusy while TABLE is
armed; else the shadow entry takes the word's defined fields and the active table stays (R37, R41, R57). That the row is
the WRITE of any words at any address is log entry 19 (DEDUCED); the bytes of ShadowBusy and of OK that R162 does not
state are 0 by log entry 25 (DEDUCED). SHCH words are in `WritesAreAllOrNothing` and `WrittenWordsReadBack`. -/
def Obligations.ShadowTableWrites : Prop :=
  (∀ (f : Frame) (start : Byte) (data : List Word) (s : State),
    exec (.shadowWrite f start data) s = exec (.write f start (BitVec.ofNat 8 data.length) data) s) ∧
  ∀ (f : Frame) (src : Source) (second : Bool) (w : Word) (s s1 : State) (addr : Byte), TakenWord f addr w s s1 →
    addr = BitVec.ofNat 8 (0x60 + 2 * src.val + if second then 1 else 0) →
    (s1.staging.locked = true → exec (.shadowWrite f addr [w]) s = .next (answerWrite s1 s1 f addr (some 0x07))) ∧
    (s1.staging.locked = false → ∀ m, s1.staging.armedTable = some m →
      exec (.shadowWrite f addr [w]) s =
        .next (s1.endConfirm.breakChain.storeResult 2 f.tag 0x08 ⟨addr, BitVec.ofNat 8 m.val, 0, 0⟩)) ∧
    (s1.staging.locked = false → s1.staging.armedTable = none →
      ∃ e : Entry, (if second then e.word1 = w &&& 0x8007 ∧ e.word0 = s1.staging.shTab[src].word0
          else e.word0 = w &&& 0x030F ∧ e.word1 = s1.staging.shTab[src].word1) ∧
        exec (.shadowWrite f addr [w]) s = .next (answerWrite s1
          { s1 with staging := { s1.staging with shTab := s1.staging.shTab.set src.val e src.isLt } } f addr none))

/-- SAFEPAT_WRITE, ARBCFG_WRITE, WDGCFG_WRITE and JRNL_CFG_WRITE: each is refused as its rule says, in order, or stores
its word and nothing else (R57, R93, R122, R133, R148). That the range of JRNL_CFG is judged on all 16 bits is log entry
21 (DEDUCED, unsafe for a nonzero high byte). The bytes of an OK answer that R162 does not state are 0 by log entry 25
(DEDUCED). -/
def Obligations.ConfigurationWrites : Prop :=
  (∀ (f : Frame) (w : Word) (s s1 : State), TakenWord f 0xE8 w s s1 →
    exec (.safepatWrite f w) s = .next (answerWrite s1 { s1 with safepat := loByte w } f 0xE8
      (if s1.staging.locked then some 0x07 else if s1.inHold then some 0x85 else none))) ∧
  (∀ (f : Frame) (w : Word) (s s1 : State), TakenWord f 0x5F w s s1 →
    exec (.arbcfgWrite f w) s = .next (answerWrite s1 { s1 with arb := { s1.arb with nestOff := w.getLsbD 0 } } f 0x5F
      (if s1.staging.locked then some 0x07 else if s1.arb.stack ≠ [] then some 0x8D else none))) ∧
  (∀ (f : Frame) (w : Word) (s s1 : State), TakenWord f 0x08 w s s1 →
    exec (.wdgcfgWrite f w) s = .next (answerWrite s1
      { s1 with wdg := { s1.wdg with cw := hiByte w, ow := loByte w } } f 0x08
      (if s1.staging.locked then some 0x07 else if loByte w = 0 then some 0x81 else none))) ∧
  (∀ (f : Frame) (w : Word) (s s1 : State), TakenWord f 0xFB w s s1 → ∀ jt : Fin 33, (w.toNat ≤ 32 → jt.val = w.toNat) →
    exec (.jrnlCfgWrite f w) s = .next (answerWrite s1 { s1 with journal := { s1.journal with jt := jt } } f 0xFB
      (if 32 < w.toNat then some 0x81 else none)))

/-! ### Notification and service -/

/-- The winner is the eligible source of the highest effective level, and of the lowest number among equals; there is none
exactly when no source is eligible (R130). -/
def Obligations.WinnerIsHighestThenLowest : Prop :=
  (∀ (s : State) (w : Source), s.winner = some w ↔
    s.eligible w = true ∧ ∀ b : Source, s.eligible b = true →
      (s.effLevel b).val < (s.effLevel w).val ∨ (s.effLevel b = s.effLevel w ∧ w.val ≤ b.val)) ∧
  (∀ s : State, s.winner = none ↔ ∀ b : Source, s.eligible b = false) ∧
  (∀ (s : State) (b : Source), s.eligible b = true ↔
    (∃ p, s.arb.pend[b] = some p) ∧ s.arb.sl.val < (s.effLevel b).val ∧ (s.arb.hd = 0 ∨ 7 ≤ (s.effLevel b).val))

/-- ACCEPT and CANCEL. ACCEPT: Nothing counts a spurious accept; a full stack refuses; else the winner is handed over, its
entry pushed with the old SL, SL raised (to 7 for a user level under NEST_OFF) and its pending state cleared. CANCEL: Range
above 21; Nothing for a source not pending; else its pending state is withdrawn with a hand-over's payload (R135, R140). -/
def Obligations.AcceptAndCancelHandOver : Prop :=
  (∀ (f : Frame) (args : Quad) (s s1 : State), TakenAction f 1 args s s1 →
    (s1.winner = none →
      exec (.accept f args) s = .next (({ s1.endConfirm with
        counters := { s1.counters with spur := satInc s1.counters.spur } } : State).answered f 1 args .nothing
          Quad.zero)) ∧
    (∀ w p, s1.winner = some w → s1.arb.pend[w] = some p → 12 ≤ s1.arb.stack.length →
      exec (.accept f args) s =
        .next (s1.endConfirm.answered f 1 args (.refused .stackFull) ⟨BitVec.ofNat 8 w.val, p.count, 0, 0⟩)) ∧
    (∀ w p, s1.winner = some w → s1.arb.pend[w] = some p → s1.arb.stack.length < 12 →
      exec (.accept f args) s = .next (({ s1.endConfirm with
        arb := { s1.arb with
          pend := s1.arb.pend.set w.val none w.isLt
          sl := if s1.arb.nestOff = true ∧ (s1.effLevel w).val ≤ 7 then 7 else s1.effLevel w
          stack := ⟨s1.arb.sl, w, p.firstSeq⟩ :: s1.arb.stack } } : State).answered f 1 args .ok
          (match p.firstSeq with
            | some seq => ⟨BitVec.ofNat 8 w.val ||| 0x80, p.count, hiByte seq, loByte seq⟩
            | none => ⟨BitVec.ofNat 8 w.val, p.count, 0, 0⟩)))) ∧
  (∀ (f : Frame) (args : Quad) (s s1 : State), TakenAction f 5 args s s1 →
    (22 ≤ args.b0.toNat →
      exec (.cancel f args) s = .next (s1.endConfirm.answered f 5 args (.refused .range) Quad.zero)) ∧
    (∀ src : Source, args.b0.toNat = src.val → s1.arb.pend[src] = none →
      exec (.cancel f args) s = .next (s1.endConfirm.answered f 5 args .nothing ⟨args.b0, 0, 0, 0⟩)) ∧
    (∀ (src : Source) (p : Pend), args.b0.toNat = src.val → s1.arb.pend[src] = some p →
      exec (.cancel f args) s = .next (({ s1.endConfirm with
        arb := { s1.arb with pend := s1.arb.pend.set src.val none src.isLt }
        counters := { s1.counters with cancel := satInc s1.counters.cancel } } : State).answered f 5 args .ok
          (match p.firstSeq with
            | some seq => ⟨args.b0 ||| 0x80, p.count, hiByte seq, loByte seq⟩
            | none => ⟨args.b0, p.count, 0, 0⟩))))

/-- DONE, SET_LEVEL and HOLDOFF, every outcome: DONE pops the top entry of the named source and restores its saved SL; a
SET_LEVEL sets SL unless it is locked; HOLDOFF ends, starts or lengthens HD (R136, R137, R138). -/
def Obligations.ServiceActions : Prop :=
  (∀ (f : Frame) (args : Quad) (s s1 : State), TakenAction f 2 args s s1 →
    (22 ≤ args.b0.toNat →
      exec (.done f args) s = .next (s1.endConfirm.answered f 2 args (.refused .range) Quad.zero)) ∧
    (args.b0.toNat < 22 → s1.arb.stack = [] →
      exec (.done f args) s =
        .next (s1.endConfirm.answered f 2 args .stackEmpty ⟨31, BitVec.ofNat 8 s1.arb.sl.val, 0, 0⟩)) ∧
    (∀ e rest, args.b0.toNat < 22 → s1.arb.stack = e :: rest → e.source.val ≠ args.b0.toNat →
      exec (.done f args) s = .next (s1.endConfirm.answered f 2 args (.refused .wrongSource)
        ⟨BitVec.ofNat 8 e.source.val, BitVec.ofNat 8 s1.arb.sl.val, BitVec.ofNat 8 (rest.length + 1), 0⟩)) ∧
    (∀ e rest, s1.arb.stack = e :: rest → e.source.val = args.b0.toNat →
      exec (.done f args) s = .next (({ s1.endConfirm with
        arb := { s1.arb with sl := e.savedSL, stack := rest } } : State).answered f 2 args .ok
          ⟨args.b0, BitVec.ofNat 8 e.savedSL.val, BitVec.ofNat 8 rest.length, 0⟩))) ∧
  (∀ (f : Frame) (args : Quad) (s s1 : State), TakenAction f 3 args s s1 →
    ∀ sl depth off, sl = BitVec.ofNat 8 s1.arb.sl.val → depth = BitVec.ofNat 8 s1.arb.stack.length →
      off = (if s1.arb.nestOff then 1 else 0) →
      (8 ≤ args.b0.toNat →
        exec (.setLevel f args) s = .next (s1.endConfirm.answered f 3 args (.refused .range) ⟨sl, sl, depth, off⟩)) ∧
      (args.b0.toNat < 8 → 8 ≤ s1.arb.sl.val ∨ (s1.arb.nestOff = true ∧ s1.arb.stack ≠ []) →
        exec (.setLevel f args) s =
          .next (s1.endConfirm.answered f 3 args (.refused .levelLocked) ⟨sl, sl, depth, off⟩)) ∧
      (∀ n : Level, args.b0.toNat < 8 → n.val = args.b0.toNat → s1.arb.sl.val < 8 →
        (s1.arb.nestOff = false ∨ s1.arb.stack = []) →
        exec (.setLevel f args) s = .next (({ s1.endConfirm with arb := { s1.arb with sl := n } } : State).answered f 3
          args .ok ⟨args.b0, sl, depth, off⟩))) ∧
  (∀ (f : Frame) (args : Quad) (s s1 : State), TakenAction f 4 args s s1 →
    ∀ n hd, n = wordOf args.b0 args.b1 →
      hd = (if n = 0 then 0 else if s1.arb.hd.toNat < n.toNat then n else s1.arb.hd) →
      exec (.holdoff f args) s = .next (({ s1.endConfirm with arb := { s1.arb with hd := hd } } : State).answered f 4 args
        .ok ⟨hiByte hd, loByte hd, 0, 0⟩))

/-! ### Staged configuration -/

/-- COMMIT: ShadowBusy on an armed scope; CommitCrc with the device's CRC on a mismatch; NOW copies and takes its
consequences; ATMARK arms the scope and changes nothing else (R44-R46). That payload bytes 0 and 1 of a CommitCrc refusal are 0
is log entry 25 (DEDUCED). -/
def Obligations.CommitChecksThenApplies : Prop :=
  ∀ (f : Frame) (args : Quad) (s s1 : State), TakenAction f 6 args s s1 →
    (commitArgs args = none →
      exec (.commit f args) s = .next (s1.endConfirm.answered f 6 args (.refused .range) Quad.zero)) ∧
    ∀ scope timing, commitArgs args = some (scope, timing) →
      (∀ m, s1.staging.armed scope = some m →
        exec (.commit f args) s =
          .next (s1.endConfirm.answered f 6 args .shadowBusy ⟨args.b0, BitVec.ofNat 8 m.val, 0, 0⟩)) ∧
      (s1.staging.armed scope = none → ∀ crc, s1.shadowCrc scope = crc → crc ≠ wordOf args.b2 args.b3 →
        exec (.commit f args) s =
          .next (s1.endConfirm.answered f 6 args (.refused .commitCrc) ⟨0, 0, hiByte crc, loByte crc⟩)) ∧
      (s1.staging.armed scope = none → s1.shadowCrc scope = wordOf args.b2 args.b3 → timing = none →
        ∃ t : State, exec (.commit f args) s = .next (t.answered f 6 args .ok ⟨args.b0, 0, args.b2, args.b3⟩) ∧
          (scope = .table → TableCommitted s1.endConfirm t) ∧
          ∀ k, scope = .channel k → ChannelCommitted k s1.endConfirm t) ∧
      (s1.staging.armed scope = none → s1.shadowCrc scope = wordOf args.b2 args.b3 → ∀ m, timing = some m →
        ∃ t : State, exec (.commit f args) s = .next (t.answered f 6 args .ok ⟨args.b0, 1, args.b2, args.b3⟩) ∧
          t = { s1.endConfirm with staging := t.staging } ∧ t.staging.armed scope = some m ∧
          (∀ other, other ≠ scope → t.staging.armed other = s1.staging.armed other) ∧
          t.staging = { s1.staging with armedTable := t.staging.armedTable, armedCh := t.staging.armedCh })

/-- ABORT_COMMIT returns an armed scope to idle and answers its mark channel; an idle scope answers Nothing; any other scope
code is out of range. Nothing is copied or recorded, and nothing is armed in the scope afterwards (R48). That payload bytes 1
to 3 of its success are 0 is log entry 25 (DEDUCED). -/
def Obligations.AbortCommitDisarms : Prop :=
  ∀ (f : Frame) (args : Quad) (s s1 : State), TakenAction f 7 args s s1 →
    (5 ≤ args.b0.toNat →
      exec (.abortCommit f args) s = .next (s1.endConfirm.answered f 7 args (.refused .range) Quad.zero)) ∧
    (∀ scope, args.b0.toNat = scopeCode scope → s1.staging.armed scope = none →
      exec (.abortCommit f args) s = .next (s1.endConfirm.answered f 7 args .nothing Quad.zero)) ∧
    (∀ scope m, args.b0.toNat = scopeCode scope → s1.staging.armed scope = some m →
      ∃ t : State, exec (.abortCommit f args) s = .next (t.answered f 7 args .ok ⟨BitVec.ofNat 8 m.val, 0, 0, 0⟩) ∧
        t = { s1.endConfirm with staging := t.staging } ∧ t.staging.armed scope = none ∧
        (∀ other, other ≠ scope → t.staging.armed other = s1.staging.armed other) ∧
        t.staging = { s1.staging with armedTable := t.staging.armedTable, armedCh := t.staging.armedCh })

/-! ### Channels by the host -/

/-- CLEAR_LATCH is all or nothing: a mask out of range or empty is refused; a named channel that is not LATCHED, or any in
Safe-Hold, or with a latch cause present, refuses the whole; else each named channel goes to CLEARING if its timing is
AtMark, and to CYCLE or NORMAL at once otherwise. The payload gives each channel's code, and of a success the two masks
(R76-R79). -/
def Obligations.ClearLatchIsAllOrNothing : Prop :=
  ∀ (f : Frame) (args : Quad) (s s1 : State), TakenAction f 8 args s s1 →
    ∀ code : Channel → BitVec 4, (∀ k : Channel, code k =
        if args.b0.getLsbD k.val = false then 0
        else if s1.chans[k].st ≠ .latched then 2
        else if s1.inHold = true then 3
        else if s1.latchPresent k = true then 4
        else 1) →
    (16 ≤ args.b0.toNat →
      exec (.clearLatch f args) s = .next (s1.endConfirm.answered f 8 args (.refused .range) ⟨args.b0, 0, 0, 0⟩)) ∧
    (args.b0 = 0 → exec (.clearLatch f args) s = .next (s1.endConfirm.answered f 8 args (.refused .emptyMask) Quad.zero)) ∧
    (args.b0.toNat < 16 → ∀ k : Channel, args.b0.getLsbD k.val = true →
      (∀ j : Channel, j < k → args.b0.getLsbD j.val = true →
        s1.chans[j].st = .latched ∧ s1.inHold = false ∧ s1.latchPresent j = false) →
      ∀ why, why = (if s1.chans[k].st ≠ .latched then some Reason.notLatched
          else if s1.inHold = true then some .inSafe else if s1.latchPresent k = true then some .causeActive else none) →
      ∀ r, why = some r →
        exec (.clearLatch f args) s =
          .next (s1.endConfirm.answered f 8 args (.refused r) ⟨0, 0, code 0 ++ code 1, code 2 ++ code 3⟩)) ∧
    (args.b0.toNat < 16 → args.b0 ≠ 0 → s1.inHold = false →
      (∀ k : Channel, args.b0.getLsbD k.val = true → s1.chans[k].st = .latched ∧ s1.latchPresent k = false) →
      ∃ (t : State) (atOnce atMark : BitVec 4),
        exec (.clearLatch f args) s = .next (t.answered f 8 args .ok
          ⟨atOnce.setWidth 8, atMark.setWidth 8, code 0 ++ code 1, code 2 ++ code 3⟩) ∧
        t = { s1.endConfirm with chans := t.chans } ∧
        ∀ k : Channel,
          atOnce.getLsbD k.val = (args.b0.getLsbD k.val && !s1.staging.actCh[k].clearAtMark) ∧
          atMark.getLsbD k.val = (args.b0.getLsbD k.val && s1.staging.actCh[k].clearAtMark) ∧
          if args.b0.getLsbD k.val = true then
            (if s1.staging.actCh[k].clearAtMark then
              t.chans[k] = { s1.chans[k] with st := .clearing, ind := .pending }
            else if s1.cyclePresent k then
              t.chans[k] = { s1.chans[k] with
                st := .cycle, persist := 0, timer := 0, enteredCycle := true, ind := .none }
            else t.chans[k] = { s1.chans[k] with st := .normal, ind := .none })
          else t.chans[k] = s1.chans[k])

/-- FORCE_TRIP: arguments out of range or an empty mask are refused; else kind Latch latches the named channels, kind
Cycle sets their pulses and takes NORMAL to CYCLE, each with the counts and indications of that entry, every other
channel stays as it is, and the HST record and occurrence follow the active HST entry; the payload names the channels
whose state changed (R63, R64, R73, R81, R82). -/
def Obligations.ForceTripActsOnItsMask : Prop :=
  ∀ (f : Frame) (args : Quad) (s s1 : State), TakenAction f 9 args s s1 →
    (16 ≤ args.b0.toNat ∨ (args.b1 ≠ 1 ∧ args.b1 ≠ 2) →
      exec (.forceTrip f args) s = .next (s1.endConfirm.answered f 9 args (.refused .range) Quad.zero)) ∧
    (args.b0 = 0 → args.b1 = 1 ∨ args.b1 = 2 →
      exec (.forceTrip f args) s = .next (s1.endConfirm.answered f 9 args (.refused .emptyMask) Quad.zero)) ∧
    (args.b0.toNat < 16 → args.b0 ≠ 0 → args.b1 = 1 ∨ args.b1 = 2 →
      ∃ (t : State) (changed : BitVec 4),
        exec (.forceTrip f args) s = .next (t.answered f 9 args .ok ⟨args.b0, args.b1, changed.setWidth 8, 0⟩) ∧
        (∀ k : Channel, changed.getLsbD k.val = decide (t.chans[k].st ≠ s1.chans[k].st)) ∧
        (∀ b : Source, b ≠ hst → b ≠ jth → t.arb.pend[b] = s1.arb.pend[b]) ∧
        t = { s1.endConfirm with chans := t.chans, journal := t.journal, arb := { s1.arb with pend := t.arb.pend } } ∧
        (∀ k : Channel, t.chans[k] =
          if args.b0.getLsbD k.val = false then s1.chans[k]
          else if args.b1 = 2 then latchEntry s1.chans[k]
          else { cycleEntry s1.chans[k] with pulse := true }) ∧
        ∀ e o, e = s1.staging.actTab[hst] →
          o = s1.journal.offer ⟨.assert (levelOf e.level) (some (if args.b1 = 1 then .cycle else .latch)), some hst,
            args.b0.extractLsb' 0 4, some (if args.b1 = 1 then .cycle else .latch), s1.time.tstamp⟩ →
          t.journal = (if e.record then o.journal else s1.journal) ∧
          t.arb.pend[hst] =
            if e.level = 0 then s1.arb.pend[hst]
            else some (match s1.arb.pend[hst] with
              | none => ⟨1, if e.record then o.seq else none⟩
              | some p => { p with count := satInc p.count }))

/-! ### Safe-Hold by the host -/

/-- FORCE_SAFE adds FORCED and answers OK in every state: it enters Safe-Hold, or joins the set, or changes nothing (R104). -/
def Obligations.ForceSafeAddsForced : Prop :=
  ∀ (f : Frame) (args : Quad) (s s1 : State), TakenAction f 10 args s s1 →
    ∃ t : State, exec (.forceSafe f args) s = .next (t.answered f 10 args .ok
        ⟨(s1.causes ||| 0x10).setWidth 8, if s1.causes = 0 then 1 else 0, 0, 0⟩) ∧
      t = { s1.endConfirm with
        causes := s1.causes ||| 0x10, chans := t.chans, journal := t.journal, arb := { s1.arb with pend := t.arb.pend } } ∧
      (∀ k : Channel, t.chans[k] = if s1.causes = 0 then s1.chans[k].latchCause else s1.chans[k]) ∧
      (∀ b : Source, b ≠ jth → t.arb.pend[b] = s1.arb.pend[b]) ∧
      t.journal =
        (if s1.causes &&& 0x10 = 0 then
          (s1.journal.offer ⟨.safeEntry .forced (decide (s1.causes = 0)), none, 0, none, s1.time.tstamp⟩).journal
        else s1.journal)

/-- EXIT_SAFE with its confirmation armed: Range, Nothing, EchoMismatch and ExitBlocked in that order, each with the
cause set and the failing conditions; else the cause set is emptied with a SafeExit record and every channel stays as it
is. Without it: NotConfirmed (R105-R107, R165). The failing conditions (a) to (e) of R106, bit by bit; that (b) judges
the monitor state that phase 2 of the last tick was handed is log entry 26 (DEDUCED). That payload bytes 1 to 3 of
NotConfirmed are 0 is log entry 25 (DEDUCED). -/
def Obligations.ExitSafeIsInterlocked : Prop :=
  (∀ (s : State) (m : Byte), m = s.exitFailing →
    (m.getLsbD 0 = true ↔ s.staging.tableValid = false) ∧ (m.getLsbD 1 = true ↔ s.clk.seen ≠ .good) ∧
    (m.getLsbD 2 = true ↔ s.safeIn = .asserted ∨ ∃ n limit, s.safeIn = .releasing n limit) ∧
    (m.getLsbD 3 = true ↔ ∃ x : Contribution, x.cls = .safe ∧
      ((∃ k : LineNo, s.lines[k].contrib = some x) ∨ s.sup.contrib = some x ∨ s.wdg.lnk = some x)) ∧
    (m.getLsbD 4 = true ↔ ∃ src : Source, (src = tblSrc ∨ src = clkSrc) ∧
      ((∃ p, s.arb.pend[src] = some p) ∨ ∃ e ∈ s.arb.stack, e.source = src)) ∧ m.toNat < 32) ∧
  ∀ (f : Frame) (args : Quad) (s s1 : State), TakenAction f 11 args s s1 →
    (s1.link.confirm ≠ some ⟨11, args.b3⟩ →
      exec (.exitSafe f args) s = .next (s1.endConfirm.answered f 11 args (.refused .notConfirmed)
        ⟨armedCode s1, 0, 0, 0⟩)) ∧
    (s1.link.confirm = some ⟨11, args.b3⟩ →
      ∀ set failing : Byte, set = s1.causes.setWidth 8 → failing = s1.exitFailing →
        (64 ≤ args.b0.toNat →
          exec (.exitSafe f args) s = .next (s1.endConfirm.answered f 11 args (.refused .range) ⟨set, failing, 0, 0⟩)) ∧
        (args.b0.toNat < 64 → s1.causes = 0 →
          exec (.exitSafe f args) s = .next (s1.endConfirm.answered f 11 args .nothing Quad.zero)) ∧
        (args.b0.toNat < 64 → s1.causes ≠ 0 → args.b0 ≠ set →
          exec (.exitSafe f args) s =
            .next (s1.endConfirm.answered f 11 args (.refused .echoMismatch) ⟨set, failing, 0, 0⟩)) ∧
        (s1.causes ≠ 0 → args.b0 = set → failing ≠ 0 →
          exec (.exitSafe f args) s =
            .next (s1.endConfirm.answered f 11 args (.refused .exitBlocked) ⟨set, failing, 0, 0⟩)) ∧
        (s1.causes ≠ 0 → args.b0 = set → failing = 0 →
          ∃ t : State, exec (.exitSafe f args) s = .next (t.answered f 11 args .ok ⟨set, 0, 0, 0⟩) ∧
            t = { s1.endConfirm with
              causes := 0, journal := (s1.journal.offer ⟨.safeExit, none, 0, none, s1.time.tstamp⟩).journal
              arb := { s1.arb with pend := t.arb.pend } } ∧
            ∀ b : Source, b ≠ jth → t.arb.pend[b] = s1.arb.pend[b]))

/-! ### The journal -/

/-- JOURNAL_POP removes exactly the head that the host names: Nothing on an empty queue, SeqMismatch on another seq (R121). -/
def Obligations.JournalPopNamesTheHead : Prop :=
  ∀ (f : Frame) (args : Quad) (s s1 : State), TakenAction f 12 args s s1 →
    (s1.journal.queue = [] →
      exec (.journalPop f args) s = .next (s1.endConfirm.answered f 12 args .nothing Quad.zero)) ∧
    (∀ r rest, s1.journal.queue = r :: rest → r.seq ≠ wordOf args.b0 args.b1 →
      exec (.journalPop f args) s = .next (s1.endConfirm.answered f 12 args (.refused .seqMismatch)
        ⟨hiByte r.seq, loByte r.seq, BitVec.ofNat 8 (rest.length + 1), 0⟩)) ∧
    (∀ r rest, s1.journal.queue = r :: rest → r.seq = wordOf args.b0 args.b1 →
      exec (.journalPop f args) s = .next (({ s1.endConfirm with
        journal := { s1.journal with queue := rest } } : State).answered f 12 args .ok
          ⟨args.b0, args.b1, BitVec.ofNat 8 rest.length, 0⟩))

/-- The insertion policy, whole: an unprotected record is stored below 28 and dropped from 28 on; a protected one is stored
below 32; in a full queue it takes the place of the oldest unprotected record, or is dropped with PROT_OVERFLOW if there is
none. A store that raises the occupancy to JT, JT between 1 and 32, is an occurrence of JTH without a first-seq if the active
JTH level is above 0, and nothing else becomes pending (R116-R119, R123). -/
def Obligations.InsertionPolicy : Prop :=
  (∀ (s t : State) (b : RecBody) (o : Offered), o = s.journal.offer b → t = s.record b →
    t = { s with journal := o.journal, arb := { s.arb with pend := t.arb.pend } } ∧
    (∀ src : Source, src ≠ jth → t.arb.pend[src] = s.arb.pend[src]) ∧
    t.arb.pend[jth] =
      if s.journal.jt ≠ 0 ∧ s.journal.queue.length + 1 = s.journal.jt.val ∧ o.journal.queue.length = s.journal.jt.val ∧
          s.staging.actTab[jth].level ≠ 0 then
        some (match s.arb.pend[jth] with
          | none => ⟨1, none⟩
          | some p => { p with count := satInc p.count })
      else s.arb.pend[jth]) ∧
  ∀ (j : Journal) (b : RecBody) (o : Offered), o = j.offer b →
    ((b.isProtected = true ∧ j.queue.length < 32) ∨ j.queue.length < 28 →
      o = ⟨{ j with queue := j.queue ++ [⟨j.nextSeq, j.lost, b⟩], nextSeq := j.nextSeq + 1, lost := 0 },
        some j.nextSeq, true⟩) ∧
    (b.isProtected = false → 28 ≤ j.queue.length →
      o = ⟨{ j with lost := satInc j.lost, lostCnt := satInc j.lostCnt }, none, false⟩) ∧
    (b.isProtected = true → 32 ≤ j.queue.length → ∀ before r after, j.queue = before ++ r :: after →
      (∀ x ∈ before, x.body.isProtected = true) → r.body.isProtected = false →
      o = ⟨{ j with
        queue := before ++ after ++ [⟨j.nextSeq, j.lost, b⟩], nextSeq := j.nextSeq + 1, lost := 0
        evictCnt := satInc j.evictCnt }, some j.nextSeq, false⟩) ∧
    (b.isProtected = true → 32 ≤ j.queue.length → (∀ x ∈ j.queue, x.body.isProtected = true) →
      o = ⟨{ j with lost := satInc j.lost, lostCnt := satInc j.lostCnt, protOverflow := true }, none, false⟩)

/-! ### The supervisor by the host -/

/-- KEEPALIVE by Table 9-2 and WDG_ARM, every state: an early or wrong-token keepalive lapses the supervisor and raises
LNK, its contribution acting on every channel by its class (R63, R64, R152), a right one returns it to CLOSED with the
next token, and one in LAPSED ends the LNK condition with a Clear record (R149, R151-R153). -/
def Obligations.KeepaliveByState : Prop :=
  (∀ (f : Frame) (args : Quad) (s s1 : State), TakenAction f 13 args s s1 →
    (s1.wdg.st = .off →
      exec (.keepalive f args) s =
        .next (s1.endConfirm.answered f 13 args (.refused .notArmed) ⟨0, s1.wdg.token, args.b0, 0⟩)) ∧
    (∀ st v code, (s1.wdg.st = .closed ∧ st = .early ∧ code = (1 : Byte)) ∨
        (s1.wdg.st = .opened ∧ args.b0 ≠ s1.wdg.token ∧ st = .badToken ∧ code = 2) → v = Verdict.refused st →
      ∃ t : State, exec (.keepalive f args) s = .next (t.answered f 13 args v ⟨3, s1.wdg.token, args.b0, code⟩) ∧
        t = { s1.endConfirm with
          wdg := t.wdg, chans := t.chans, causes := t.causes, journal := t.journal, arb := t.arb } ∧
        ∀ x, x = Contribution.mk s1.staging.actTab[lnkSrc].cls s1.staging.actTab[lnkSrc].mask 9 →
          t.wdg = { s1.wdg with st := .lapsed, timer := 0, length := s1.wdg.ow, fresh := true, lnk := some x } ∧
          Asserts lnkSrc x true s1 t) ∧
    (s1.wdg.st = .opened → args.b0 = s1.wdg.token →
      exec (.keepalive f args) s = .next (({ s1.endConfirm with
        wdg := { s1.wdg with st := .closed, timer := 0, length := s1.wdg.cw, fresh := true, token := s1.wdg.token + 1 }
        } : State).answered f 13 args .ok ⟨1, s1.wdg.token + 1, args.b0, 2⟩)) ∧
    (s1.wdg.st = .lapsed → args.b0 ≠ s1.wdg.token →
      exec (.keepalive f args) s =
        .next (s1.endConfirm.answered f 13 args (.refused .badToken) ⟨3, s1.wdg.token, args.b0, 3⟩)) ∧
    (s1.wdg.st = .lapsed → args.b0 = s1.wdg.token → ∀ x, s1.wdg.lnk = some x →
      ∃ t : State, exec (.keepalive f args) s = .next (t.answered f 13 args .ok ⟨1, s1.wdg.token + 1, args.b0, 3⟩) ∧
        t = { s1.endConfirm with
          wdg := { s1.wdg with
            st := .closed, timer := 0, length := s1.wdg.cw, fresh := true, token := s1.wdg.token + 1, lnk := none }
          journal := (s1.journal.offer ⟨.clear false, some lnkSrc, x.mask, none, s1.time.tstamp⟩).journal
          arb := { s1.arb with pend := t.arb.pend } } ∧
        ∀ b : Source, b ≠ jth → t.arb.pend[b] = s1.arb.pend[b])) ∧
  (∀ (f : Frame) (args : Quad) (s s1 : State), TakenAction f 14 args s s1 →
    (s1.wdg.st = .off →
      exec (.wdgArm f args) s = .next (({ s1.endConfirm with
        wdg := { s1.wdg with st := .closed, timer := 0, length := s1.wdg.cw, fresh := true, token := 0 }
        } : State).answered f 14 args .ok ⟨1, 0, 0, 0⟩)) ∧
    (s1.wdg.st ≠ .off →
      exec (.wdgArm f args) s =
        .next (s1.endConfirm.answered f 14 args (.refused .alreadyArmed) ⟨s1.wdg.st.code, s1.wdg.token, 0, 0⟩)))

/-! ### Lock, confirmation, reset, counters -/

/-- LOCK sets LOCKED, a confirmed UNLOCK clears it, and CONFIRM arms one of the four confirmed codes with the low byte
of TSTAMP as its challenge; each answers Nothing or a refusal otherwise (R57, R58, R165). That payload bytes 1 to 3 of
NotConfirmed and bytes 2 and 3 of an OK CONFIRM are 0 is log entry 25 (DEDUCED). -/
def Obligations.LockUnlockAndConfirm : Prop :=
  (∀ (f : Frame) (args : Quad) (s s1 : State), TakenAction f 15 args s s1 →
    exec (.lock f args) s = .next (({ s1.endConfirm with
      staging := { s1.staging with locked := true } } : State).answered f 15 args
        (if s1.staging.locked then .nothing else .ok) Quad.zero)) ∧
  (∀ (f : Frame) (args : Quad) (s s1 : State), TakenAction f 16 args s s1 →
    (s1.link.confirm = some ⟨16, args.b3⟩ →
      exec (.unlock f args) s = .next (({ s1.endConfirm with
        staging := { s1.staging with locked := false } } : State).answered f 16 args
          (if s1.staging.locked then .ok else .nothing) Quad.zero)) ∧
    (s1.link.confirm ≠ some ⟨16, args.b3⟩ →
      exec (.unlock f args) s = .next (s1.endConfirm.answered f 16 args (.refused .notConfirmed)
        ⟨armedCode s1, 0, 0, 0⟩))) ∧
  (∀ (f : Frame) (args : Quad) (s s1 : State), TakenAction f 17 args s s1 →
    (args.b0 = 11 ∨ args.b0 = 16 ∨ args.b0 = 18 ∨ args.b0 = 19 → ∀ ch : Byte, ch = s1.time.tstamp.extractLsb' 0 8 →
      exec (.confirm f args) s = .next (({ s1 with
        link := { s1.link with confirm := some ⟨args.b0, ch⟩ } } : State).answered f 17 args .ok ⟨ch, args.b0, 0, 0⟩)) ∧
    (args.b0 ≠ 11 ∧ args.b0 ≠ 16 ∧ args.b0 ≠ 18 ∧ args.b0 ≠ 19 →
      exec (.confirm f args) s = .next (s1.endConfirm.answered f 17 args (.refused .range) Quad.zero)))

/-- A confirmed RESET_DEVICE performs a CMD reset: every block but the timestamp, the clock monitor, SAFEPAT, LOCKED,
the sticky causes and the journal's content is as after POR, its ResetMark and a SafeEntry of STARTUP are offered, the
outputs and nIRQ are recomputed, and its own result gives way to the ResetNotice; without its confirmation nothing is
reset (R19, R39, R103, R168, R171-R173). The model's own choices: RAWIN and the samples of INSTAT stay (log entry 10,
DESIGN CHOICE), and the clock source returns to REF if a clear was handled in the tick so abandoned (log entry 12,
DEDUCED). That payload bytes 1 to 3 of NotConfirmed are 0 is log entry 25 (DEDUCED). -/
def Obligations.ResetDeviceResets : Prop :=
  ∀ (f : Frame) (args : Quad) (s s1 : State), TakenAction f 18 args s s1 →
    (s1.link.confirm ≠ some ⟨18, args.b3⟩ →
      exec (.resetDevice f args) s = .next (s1.endConfirm.answered f 18 args (.refused .notConfirmed)
        ⟨armedCode s1, 0, 0, 0⟩)) ∧
    (s1.link.confirm = some ⟨18, args.b3⟩ →
      ∃ t : State, exec (.resetDevice f args) s = .next t ∧
        t = { State.reset with
          time := { s1.time with hold := 0, wmPrev := none }
          clk := if s1.clk.toRef then { s1.clk with src := .ref, toRef := false } else s1.clk
          staging := { State.reset.staging with locked := s1.staging.locked }
          safepat := s1.safepat, pins := s1.pins, journal := t.journal
          outs := ⟨Vector.replicate 8 .safe, s1.safepat, true, t.outs.nIrq⟩
          arb := { State.reset.arb with pend := t.arb.pend }
          link := { State.reset.link with
            result := ⟨0, 0, 0x0A, ⟨2, 0, 0, 0⟩⟩, flight := s1.link.flight.map fun q => { q with dead := true }
            sdo := s1.link.sdo }
          rstcause := ⟨.cmd, s1.rstcause.sticky ||| 4⟩, pending := s1.pending } ∧
        (∀ b : Source, b ≠ jth → t.isPending b = false) ∧
        (t.outs.nIrq = true ↔ ∃ src : Source, t.eligible src = true) ∧
        t.journal =
          ((s1.journal.offer ⟨.resetMark .cmd, none, 0, none, s1.time.tstamp⟩).journal.offer
            ⟨.safeEntry .startup true, none, 0, none, s1.time.tstamp⟩).journal)

/-- A confirmed SELFTEST complements the reference CRC while table-valid is true and touches nothing else; otherwise
NotValid or NotConfirmed (R56). That payload byte 3 of its success and bytes 1 to 3 of NotConfirmed are 0 is log entry
25 (DEDUCED). -/
def Obligations.SelftestComplementsTheReference : Prop :=
  ∀ (f : Frame) (args : Quad) (s s1 : State), TakenAction f 19 args s s1 →
    (s1.link.confirm ≠ some ⟨19, args.b3⟩ →
      exec (.selftest f args) s = .next (s1.endConfirm.answered f 19 args (.refused .notConfirmed)
        ⟨armedCode s1, 0, 0, 0⟩)) ∧
    (s1.link.confirm = some ⟨19, args.b3⟩ → s1.staging.tableValid = false →
      exec (.selftest f args) s = .next (s1.endConfirm.answered f 19 args (.refused .notValid) Quad.zero)) ∧
    (s1.link.confirm = some ⟨19, args.b3⟩ → s1.staging.tableValid = true →
      exec (.selftest f args) s = .next (({ s1.endConfirm with
        scrub := { s1.scrub with ref := ~~~s1.scrub.ref } } : State).answered f 19 args .ok
          ⟨hiByte (~~~s1.scrub.ref), loByte (~~~s1.scrub.ref), BitVec.ofNat 8 s1.scrub.position.val, 0⟩))

/-- CLEAR_COUNTERS sets the five counters to 0, clears PROT_OVERFLOW and changes nothing else; a FrameCrc judged after it
counts from 0 (R176). -/
def Obligations.ClearCountersClears : Prop :=
  ∀ (f : Frame) (args : Quad) (s s1 : State), TakenAction f 20 args s s1 →
    ∃ t : State, exec (.clearCounters f args) s = .next (t.answered f 20 args .ok Quad.zero) ∧
      t = { s1.endConfirm with
        counters := ⟨0, 0, 0⟩
        journal := { s1.journal with lostCnt := 0, evictCnt := 0, protOverflow := false } } ∧
      (t.answered f 20 args .ok Quad.zero).countError.counters.err = 1

/-- CLEAR_CAUSE clears the four sticky bits of RSTCAUSE, keeps the last kind and its PROT cause, and answers the bits as they
stood, OK if any was set and Nothing if none was; a sticky bit reappears only at a reset of its kind (R174). -/
def Obligations.ClearCauseClearsTheStickyBits : Prop :=
  (∀ (f : Frame) (args : Quad) (s s1 : State), TakenAction f 21 args s s1 →
    exec (.clearCause f args) s = .next (({ s1.endConfirm with
      rstcause := ⟨s1.rstcause.last, 0⟩ } : State).answered f 21 args
        (if s1.rstcause.sticky = 0 then .nothing else .ok) ⟨s1.rstcause.sticky.setWidth 8, 0, 0, 0⟩)) ∧
  (∀ (s t : State) (kind : ResetKind), step s = .next t → s.rstcause.sticky &&& kind.stickyBit = 0 →
    t.rstcause.sticky &&& kind.stickyBit ≠ 0 → t.rstcause.last.code = kind.code)

/-- An ACTION with a code of 0 or above 21 is BadKind with a zero payload: it ends the armed confirmation, enters the replay
memory and changes nothing else (R164-R166). -/
def Obligations.UnknownCodesAreBadKind : Prop :=
  ∀ (f : Frame) (code : Byte) (args : Quad) (s s1 : State), TakenAction f code args s s1 →
    code = 0 ∨ 21 < code.toNat →
    exec (.unknownActionCode f code args) s = .next (s1.endConfirm.answered f code args .badKind Quad.zero)

/-! ### Registers -/

/-- CLKSTAT, word 0x02, shows state, source and recovery count at their bits, never shows code 3, cannot be written, and
a READ of it captures it as it stands at the boundary and changes nothing else; the capture that an ended READ of
TSTAMP_LO still owes falls at that boundary too (R4, R17, Table 1-2). The model's own choices: the READ left in flight
is log entry 13, and that the tick in progress ends before nCS falls log entry 3 (DESIGN CHOICES, log entry 3 unsafe). -/
def Obligations.ClkstatLayout : Prop :=
  regAt 0x02 = some .clkstat ∧ Reg.writable .clkstat = false ∧
  (∀ s : State, s.clk.recovery ≤ 4096 →
    (Reg.clkstat.read s).extractLsb' 14 2 = (match s.clk.mon with | .good => 0 | .lost => 1 | .recovering => 2 : BitVec 2) ∧
    (Reg.clkstat.read s).getLsbD 13 = (s.clk.src == .backup) ∧
    ((Reg.clkstat.read s).extractLsb' 0 13).toNat = s.clk.recovery ∧
    (Reg.clkstat.read s).extractLsb' 14 2 ≠ (3 : BitVec 2)) ∧
  (∀ (f : Frame) (s u : State), s.inReset = false → u = s.settle → u.link.flight = none → f.during = [] →
    exec (.readSnapshot f ⟨0x02, 1⟩) s = .next { u with
      time := { u.time with hold := if u.link.owed then u.time.tstamp.extractLsb' 16 16 else u.time.hold }
      link := { u.link with
        owed := false
        flight := some ⟨readBytes f.tag 0x02 1, u.statusByte, u.link.result, true,
          (headBytes u.statusByte u.link.result).take 4, some [Reg.clkstat.read u], false⟩ } })

/-- Every read-only word but TSTAMP_LO, TSTAMP_HI and CLKSTAT shows, at the address of Table 11-2, its fields bit by
bit, and every bit that its table does not name reads 0: the conditioners, the glitch counters and RAWIN (R35, Table
2-5), the table entries and channel blocks of both copies (R37, R40, Tables 3-1 and 3-3), COMMITSTAT, REFCRC and
SCRUBSTAT (R59, Table 3-5), CHSTAT (R85, Table 4-3), OUTSTAT (R96, Table 5-3), SAFESTAT (R109, Table 6-4), the journal
words with the detail by kind (R120, Tables 7-4 and 7-5), the views of the arbiter (R143, Table 8-2), CRITSTAT and
WDGSTAT (R155, Table 9-3), RSTCAUSE (R173, Table 11-1) and the counters (R142, R157, R175). Exactly the words of Table
11-2 marked RW are writable (R177). The stack holds at most 12 entries by `ServiceStackStaysFit`. That the window
timer, shown by its low 20 bits, has no width is log entry 22 (DESIGN CHOICE); the failing conditions of SAFESTAT are
bit by bit in `ExitSafeIsInterlocked`. -/
def Obligations.StatusWordLayouts : Prop :=
  (∀ r : Reg, r.writable = true ↔
    r = .wdgcfg ∨ (∃ k, r = .linemode k) ∨ (∃ k, r = .lineflt k) ∨ r = .arbcfg ∨ (∃ src b, r = .shtab src b) ∨
    (∃ k i, r = .shch k i) ∨ r = .safepat ∨ r = .jrnlCfg) ∧
  (regAt 0x03 = some .rstcause ∧ regAt 0x04 = some .critstat ∧ regAt 0x50 = some .lineact ∧ regAt 0x51 = some .rawin ∧
    regAt 0xD8 = some .commitstat ∧ regAt 0xD9 = some .refcrc ∧ regAt 0xDA = some .scrubstat ∧ regAt 0xF6 = some .jrnlOcc ∧
    regAt 0xF7 = some .jrnlNextseq ∧ regAt 0xF8 = some .jrnlStat ∧ regAt 0xF9 = some .lostcnt ∧
    regAt 0xFA = some .evictcnt ∧ regAt 0x05 = some .errcnt ∧ regAt 0x06 = some .spurcnt ∧ regAt 0x07 = some .cancelcnt) ∧
  (∀ i : Fin 3, regAt (0x09 + i.val) = some (.wdgstat i) ∧ regAt (0x52 + i.val) = some (.instat i) ∧
    regAt (0x5C + i.val) = some (.stackview i) ∧ regAt (0xE9 + i.val) = some (.outstat i)) ∧
  (∀ b : Bool, regAt (0x58 + b.toNat) = some (.pending b) ∧ regAt (0x5A + b.toNat) = some (.slevel b) ∧
    regAt (0xEC + b.toNat) = some (.safestat b)) ∧
  (∀ k : LineNo, regAt (0x30 + k.val) = some (.linestat k) ∧ regAt (0x40 + k.val) = some (.linecap k)) ∧
  (∀ j : Fin 8, regAt (0x98 + j.val) = some (.lineglt j)) ∧
  (∀ (src : Source) (b : Bool), regAt (0x60 + 2 * src.val + b.toNat) = some (.shtab src b) ∧
    regAt (0xA0 + 2 * src.val + b.toNat) = some (.acttab src b)) ∧
  (∀ (k : Channel) (i : Fin 3), regAt (0x8C + 3 * k.val + i.val) = some (.shch k i) ∧
    regAt (0xCC + 3 * k.val + i.val) = some (.actch k i)) ∧
  (∀ (k : Channel) (b : Bool), regAt (0xE0 + 2 * k.val + b.toNat) = some (.chstat k b)) ∧
  (∀ i : Fin 6, regAt (0xF0 + i.val) = some (.jrnlHead i)) ∧
  ∀ s : State,
    -- lines, SUP and SAFE_IN
    (∀ k : LineNo, Shows (Reg.read (.linestat k) s) (condFields s.lines[k].cond) ∧
      Shows (Reg.read (.linecap k) s) (contribFields s.lines[k].contrib) ∧
      (Reg.read .lineact s).getLsbD k.val = s.lines[k].cond.isActive) ∧
    (∀ j : Fin 8, Shows (Reg.read (.lineglt j) s)
      [(15, 8, s.lines[2 * j.val].glitch.toNat), (7, 0, s.lines[2 * j.val + 1].glitch.toNat)]) ∧
    Reg.read .rawin s = s.time.rawin ∧
    Shows (Reg.read (.instat 0) s) ((15, 15, s.time.supLow.toNat) :: condFields s.sup.cond) ∧
    Shows (Reg.read (.instat 1) s) (contribFields s.sup.contrib) ∧
    Shows (Reg.read (.instat 2) s) ((15, 15, s.time.safeInPin.toNat) :: condFields s.safeIn) ∧
    -- the table, the channel blocks, their commits and the scrubber
    (∀ (src : Source) (b : Bool), Shows (Reg.read (.shtab src b) s) (entryFields s.staging.shTab[src] b) ∧
      Shows (Reg.read (.acttab src b) s) (entryFields s.staging.actTab[src] b)) ∧
    (∀ (k : Channel) (i : Fin 3), Shows (Reg.read (.shch k i) s) (blockFields s.staging.shCh[k] i) ∧
      Shows (Reg.read (.actch k i) s) (blockFields s.staging.actCh[k] i)) ∧
    Shows (Reg.read .commitstat s)
      [(15, 15, s.staging.tableValid.toNat), (14, 14, s.staging.locked.toNat),
       (6, 5, match s.staging.armedTable with | some k => k.val | none => 0), (4, 4, s.staging.armedTable.isSome.toNat),
       (3, 0, s.staging.armedCh.toNat)] ∧
    Reg.read .refcrc s = s.scrub.ref ∧
    Shows (Reg.read .scrubstat s)
      [(15, 15, s.staging.tableValid.toNat), (14, 14, s.scrub.tblCond.toNat), (12, 8, s.scrub.position.val),
       (5, 0, s.scrub.pacing.val)] ∧
    -- channels, outputs and Safe-Hold
    (∀ k : Channel, Shows (Reg.read (.chstat k false) s)
        [(15, 14, match s.chans[k].st with | .normal => 0 | .cycle => 1 | .latched => 2 | .clearing => 3),
         (13, 12, match s.chans[k].ind with | .none => 0 | .pending => 1 | .cancelled => 2),
         (11, 11, s.chans[k].pulse.toNat), (10, 10, (s.cyclePresent k).toNat), (9, 9, (s.latchPresent k).toNat),
         (7, 0, s.chans[k].persist.toNat)] ∧
      Shows (Reg.read (.chstat k true) s) [(15, 0, min (s.chans[k].timer.toNat / 16) 65535)]) ∧
    (∀ i : Fin 16, (Reg.read (.outstat 0) s).getLsbD i.val =
      if h : i.val < 8 then s.outLevel ⟨i.val, h⟩ else if i = 8 then s.outs.nSafe else false) ∧
    Shows (Reg.read (.outstat 1) s)
      [(15, 12, layerNumber s.outs.layers[5]), (11, 8, layerNumber s.outs.layers[1]),
       (7, 4, layerNumber s.outs.layers[4]), (3, 0, layerNumber s.outs.layers[0])] ∧
    Shows (Reg.read (.outstat 2) s)
      [(15, 12, layerNumber s.outs.layers[7]), (11, 8, layerNumber s.outs.layers[3]),
       (7, 4, layerNumber s.outs.layers[6]), (3, 0, layerNumber s.outs.layers[2])] ∧
    Shows (Reg.read (.safestat false) s) [(15, 15, (decide (s.causes ≠ 0)).toNat), (5, 0, s.causes.toNat)] ∧
    Shows (Reg.read (.safestat true) s) [(4, 0, s.exitFailing.toNat)] ∧
    -- the journal
    (∀ i : Fin 6, (s.journal.queue = [] → Reg.read (.jrnlHead i) s = 0) ∧
      ∀ r rest, s.journal.queue = r :: rest → Shows (Reg.read (.jrnlHead i) s) (recordFields r i)) ∧
    Reg.read .jrnlOcc s = BitVec.ofNat 16 s.journal.queue.length ∧ Reg.read .jrnlNextseq s = s.journal.nextSeq ∧
    Shows (Reg.read .jrnlStat s) [(15, 15, s.journal.protOverflow.toNat), (7, 0, s.journal.lost.toNat)] ∧
    Reg.read .lostcnt s = s.journal.lostCnt ∧ Reg.read .evictcnt s = s.journal.evictCnt ∧
    -- the arbiter
    (∀ i : Fin 16, (Reg.read (.pending false) s).getLsbD i.val = s.isPending ⟨i.val, Nat.lt_trans i.isLt (by decide)⟩) ∧
    (∀ i : Fin 16, (Reg.read (.pending true) s).getLsbD i.val =
      if h : i.val < 6 then s.isPending ⟨16 + i.val, by omega⟩
      else if 8 ≤ i.val ∧ i.val ≤ 12 then (match s.winner with | some w => w.val | none => 31).testBit (i.val - 8)
      else if i = 15 then s.winner.isSome else false) ∧
    Shows (Reg.read (.slevel false) s)
      [(3, 0, s.arb.sl.val), (14, 14, s.arb.nestOff.toNat), (15, 15, (decide (s.arb.hd ≠ 0)).toNat)] ∧
    Reg.read (.slevel true) s = s.arb.hd ∧
    (s.arb.stack = [] → Shows (Reg.read (.stackview 0) s) [(12, 8, 31)] ∧ Reg.read (.stackview 1) s = 0 ∧
      Reg.read (.stackview 2) s = 0) ∧
    (∀ e rest, s.arb.stack = e :: rest → s.arb.stack.length ≤ 12 →
      Shows (Reg.read (.stackview 0) s)
        [(3, 0, s.arb.stack.length), (12, 8, e.source.val), (15, 15, e.firstSeq.isSome.toNat)] ∧
      Shows (Reg.read (.stackview 1) s) [(3, 0, e.savedSL.val)] ∧
      Reg.read (.stackview 2) s = (match e.firstSeq with | some q => q | none => 0)) ∧
    -- supervision, reset cause and counters
    Shows (Reg.read .critstat s)
      [(0, 0, s.sup.cond.isActive.toNat), (1, 1, s.wdg.lnk.isSome.toNat), (2, 2, s.scrub.tblCond.toNat),
       (3, 3, s.clk.cond.toNat)] ∧
    Shows (Reg.read (.wdgstat 0) s)
      [(15, 14, match s.wdg.st with | .off => 0 | .closed => 1 | .opened => 2 | .lapsed => 3), (7, 0, s.wdg.token.toNat)] ∧
    Reg.read (.wdgstat 1) s = (if s.wdg.st = .off then 0 else BitVec.ofNat 16 (s.wdg.timer / 16)) ∧
    Shows (Reg.read (.wdgstat 2) s)
      ((15, 8, if s.wdg.st = .off then 0 else s.wdg.length.toNat) ::
        match s.wdg.lnk with
        | some x => [(7, 7, 1), (5, 4, classNumber x.cls), (3, 0, x.mask.toNat)]
        | none => []) ∧
    Shows (Reg.read .rstcause s)
      [(1, 0, match s.rstcause.last with | .por => 0 | .pin => 1 | .cmd => 2 | .prot _ => 3),
       (3, 2, match s.rstcause.last with | .prot .conflict => 1 | .prot .linkEscalation => 2 | _ => 0),
       (11, 8, s.rstcause.sticky.toNat)] ∧
    Reg.read .errcnt s = s.counters.err ∧ Reg.read .spurcnt s = s.counters.spur ∧ Reg.read .cancelcnt s = s.counters.cancel

/-- A writable word reads back, in every state, the defined bits of the word stored last, and zeros elsewhere (R18, R37, R40,
R93, R122, R133, R148). -/
def Obligations.WrittenWordsReadBack : Prop :=
  ∀ (r : Reg) (w : Word) (s : State), r.writable = true → r.rangeBad w = false → (r = .jrnlCfg → w.toNat ≤ 32) →
    r.read (r.store w s) = w &&& r.storedBits
end

