-- ==== Sys2Proof/Laws/Resets.lean ====
section
/-! SUPPORT. What an offer of a protected record leaves, and what the Protective reset leaves, each said once. -/

namespace Sys2Proof.Machine

/-! ### Offers of protected records -/

/-- An offer keeps the threshold (R116). -/
@[simp] theorem Journal.offer_jt (j : Journal) (b : RecBody) : (j.offer b).journal.jt = j.jt := by
  unfold Journal.offer
  dsimp only
  split
  · split
    · rfl
    · split <;> rfl
  · split <;> rfl

/-- A protected record raises the occupancy by one or not at all (R116, R117). -/
theorem Journal.offer_length (j : Journal) {b : RecBody} (h : b.isProtected = true) :
    (j.offer b).journal.queue.length = if (j.offer b).raised then j.queue.length + 1 else j.queue.length := by
  unfold Journal.offer
  dsimp only
  rw [if_pos h]
  split
  · simp [Journal.append]
  · split
    · rename_i q hq
      obtain ⟨before, r, after, h1, h2, -⟩ := evictOldest_some hq
      simp [Journal.append, h1, h2]
    · simp [Journal.drop]

theorem Journal.offer_length_le (j : Journal) {b : RecBody} (h : b.isProtected = true) :
    j.queue.length ≤ (j.offer b).journal.queue.length := by
  rw [j.offer_length h]; split <;> omega

/-- A store crosses the threshold exactly if it takes the occupancy from below JT to JT (R123). -/
theorem Journal.crosses_iff (j : Journal) {b : RecBody} (h : b.isProtected = true) :
    (j.offer b).journal.crosses (j.offer b).raised =
      decide (j.queue.length < j.jt.val ∧ j.jt.val ≤ (j.offer b).journal.queue.length) := by
  have h0 : (j.jt != 0) = decide (j.jt.val ≠ 0) := by
    by_cases e : j.jt = 0
    · simp [e]
    · have : j.jt.val ≠ 0 := fun x => e (Fin.ext x)
      simp [e, this, bne_iff_ne]
  rw [Journal.crosses, Journal.offer_jt, h0, Bool.eq_iff_iff]
  simp only [Bool.and_eq_true, decide_eq_true_eq, beq_iff_eq]
  rw [j.offer_length h]
  split <;> simp_all
  omega

/-- A protected record makes JTH pending exactly if its store crosses the threshold, and otherwise keeps its pending state
(R123). -/
theorem State.record_jth (s : State) {b : RecBody} (hp : b.isProtected = true) (hl : s.effLevel jth ≠ 0) :
    (s.record b).arb.pend[jth] =
      if s.journal.queue.length < s.journal.jt.val ∧ s.journal.jt.val ≤ (s.record b).journal.queue.length then
        some (match s.arb.pend[jth] with
          | none => ⟨1, none⟩
          | some p => { p with count := satInc p.count })
      else s.arb.pend[jth] := by
  have hlev : (({ s with journal := (s.journal.offer b).journal } : State).effLevel jth != 0) = true := by
    simpa [State.effLevel] using hl
  rw [State.record_journal]
  unfold State.record State.offer
  dsimp only
  rw [s.journal.crosses_iff hp, hlev, Bool.and_true]
  by_cases h : s.journal.queue.length < s.journal.jt.val ∧ s.journal.jt.val ≤ (s.journal.offer b).journal.queue.length
  · rw [if_pos (by simpa using h), if_pos h]
    exact State.occur_pend _ jth none
  · rw [if_neg (by simpa using h), if_neg h]

/-- Two protected records in a row make a JTH that was not pending pending once, exactly if one of them crosses. -/
theorem State.record_record_jth (s : State) {x y : RecBody} (hx : x.isProtected = true) (hy : y.isProtected = true)
    (hl : s.effLevel jth ≠ 0) (hn : s.arb.pend[jth] = none) :
    ((s.record x).record y).arb.pend[jth] =
      if s.journal.queue.length < s.journal.jt.val ∧ s.journal.jt.val ≤ ((s.record x).record y).journal.queue.length then
        some ⟨1, none⟩
      else none := by
  have hl1 : (s.record x).effLevel jth ≠ 0 := by rw [s.record_eq x]; exact hl
  have hj : (s.record x).journal.jt = s.journal.jt := by simp
  have h1 : s.journal.queue.length ≤ (s.record x).journal.queue.length := by
    rw [State.record_journal]; exact s.journal.offer_length_le hx
  have h2 : (s.record x).journal.queue.length ≤ ((s.record x).record y).journal.queue.length := by
    rw [State.record_journal (s.record x)]; exact (s.record x).journal.offer_length_le hy
  rw [(s.record x).record_jth hy hl1, s.record_jth hx hl, hn, hj]
  by_cases ha : s.journal.queue.length < s.journal.jt.val ∧ s.journal.jt.val ≤ (s.record x).journal.queue.length
  · rw [if_pos ha, if_neg (by omega), if_pos (by omega)]
  · by_cases hb : (s.record x).journal.queue.length < s.journal.jt.val ∧
        s.journal.jt.val ≤ ((s.record x).record y).journal.queue.length
    · rw [if_neg ha, if_pos hb, if_pos (by omega)]
    · rw [if_neg ha, if_neg hb, if_neg (by omega)]

/-! ### The reset step of PROT -/

/-- The records of a Protective reset, offered to the state that its first steps leave (R171, step 4). -/
def protRecords (why : ProtCause) (causes : BitVec 6) (s : State) : State :=
  let marked := s.record (s.plainBody (.resetMark (.prot why)) none 0)
  match resetEntry false causes with
  | some first => marked.record (marked.plainBody (.safeEntry .startup first) none 0)
  | none => marked

theorem State.protReset_eq (why : ProtCause) (u : State) :
    u.protReset why =
      let r := protRecords why u.causes (u.softResetBlocks (.prot why) false)
      r.recomputeOutputs.recomputeIrq (r.arb.hd != 0) := rfl

/-- The SafeEntry record by the cause set that stood before (Table 6-2). -/
theorem resetEntry_prot (c : BitVec 6) :
    resetEntry false c = if c = 0 then some true else if c.getLsbD 0 = false then some false else none := by
  revert c; decide +kernel

/-- What the records of a Protective reset leave: the journal, and JTH pending if one of them crossed. -/
theorem protRecords_spec (why : ProtCause) (c : BitVec 6) (s : State) (hn : ∀ b : Source, s.arb.pend[b] = none)
    (hl : s.effLevel jth ≠ 0) :
    let r := protRecords why c s
    r = { s with journal := protJournal why { s with causes := c }, arb := { s.arb with pend := r.arb.pend } } ∧
    (∀ b : Source, b ≠ jth → r.arb.pend[b] = none) ∧
    r.arb.pend[jth] =
      if s.journal.queue.length < s.journal.jt.val ∧ s.journal.jt.val ≤ r.journal.queue.length then some ⟨1, none⟩
      else none := by
  let x : RecBody := ⟨.resetMark (.prot why), none, 0, none, s.time.tstamp⟩
  have ex : s.plainBody (.resetMark (.prot why)) none 0 = x := rfl
  have hx : x.isProtected = true := rfl
  have two : ∀ y : RecBody, y.isProtected = true →
      let r := (s.record x).record y
      r = { s with journal := ((s.journal.offer x).journal.offer y).journal, arb := { s.arb with pend := r.arb.pend } } ∧
      (∀ b : Source, b ≠ jth → r.arb.pend[b] = none) ∧
      r.arb.pend[jth] =
        if s.journal.queue.length < s.journal.jt.val ∧ s.journal.jt.val ≤ r.journal.queue.length then some ⟨1, none⟩
        else none := by
    refine fun y hy => ⟨?_, fun b hb => ?_, s.record_record_jth hx hy hl (hn jth)⟩
    · have e := (s.record x).record_eq y
      rw [State.record_journal] at e
      generalize (s.record x).record y = r at e
      rw [s.record_eq x] at e
      exact e
    · exact (State.record_pend_ne _ _ hb).trans ((State.record_pend_ne _ _ hb).trans (hn b))
  have ey : ∀ f, (s.record x).plainBody (.safeEntry .startup f) none 0 =
      ⟨.safeEntry .startup f, none, 0, none, s.time.tstamp⟩ := fun f => by simp [State.plainBody]
  dsimp only
  unfold protRecords protJournal
  dsimp only
  rw [resetEntry_prot, ex]
  by_cases h0 : c = 0
  · simp only [h0, if_true, ey]
    exact two _ rfl
  · by_cases h1 : c.getLsbD 0 = false
    · simp only [h0, h1, if_true, if_false, ey]
      exact two _ rfl
    · simp only [h0, h1, if_false, reduceCtorEq]
      refine ⟨s.record_eq x, fun b hb => (State.record_pend_ne _ _ hb).trans (hn b), ?_⟩
      rw [s.record_jth hx hl, hn jth]

/-- A Protective reset leaves what the summary of reset effects gives (R171). -/
theorem State.protReset_spec (why : ProtCause) (u : State) : ProtReset why u (u.protReset why) := by
  have hb : ∀ x : Byte, byteOfLevels (fun i => x.getLsbD i.val) = x := by decide +kernel
  obtain ⟨h1, h2, h3⟩ := protRecords_spec why u.causes (u.softResetBlocks (.prot why) false)
    (by intro b; simp [State.softResetBlocks, Arbiter.softReset])
    (by simp [State.effLevel, State.softResetBlocks, Staging.softReset, jth, levelOf, Entry.default])
  have e := u.protReset_eq why
  dsimp only at e
  generalize protRecords why u.causes (u.softResetBlocks (.prot why) false) = r at h1 h2 h3 e
  have hh : r.inHold = true := by
    rw [h1]
    simp only [State.inHold, State.softResetBlocks, Bool.false_eq_true, if_false]
    generalize u.causes = c
    revert c; decide +kernel
  have hlay : ∀ i, r.layerNow i = .safe := fun i => by simp [State.layerNow, hh, layerOf]
  have hlev : r.levelNow = fun i => r.safepat.getLsbD i.val := by
    funext i; simp [State.levelNow, hlay, levelUnder]
  rw [e]
  refine ⟨?_, ?_, h2, h3, ?_⟩
  · have e1 : r.recomputeOutputs.recomputeIrq (r.arb.hd != 0) =
        { r with outs := ⟨Vector.replicate 8 .safe, r.safepat, true,
          (r.recomputeOutputs.recomputeIrq (r.arb.hd != 0)).outs.nIrq⟩ } := by
      have hv : Vector.ofFn r.layerNow = Vector.replicate 8 .safe := by ext i hi; simp [hlay]
      conv => lhs; unfold State.recomputeIrq State.recomputeOutputs
      rw [hv, hlev, hb, hh]
      rfl
    rw [e1]
    generalize (r.recomputeOutputs.recomputeIrq (r.arb.hd != 0)).outs.nIrq = q
    generalize r.arb.pend = p at h1
    subst h1
    cases why <;> rfl
  · intro k
    rw [State.recomputeIrq_lines, State.recomputeOutputs_lines, h1]
    simp [State.softResetBlocks, Line.softReset]
  · have hm : ∀ src : Source, src ∈ allSources := by decide
    have ha : (r.recomputeOutputs.recomputeIrq (r.arb.hd != 0)).outs.nIrq =
        allSources.any (r.recomputeOutputs.recomputeIrq (r.arb.hd != 0)).eligible := rfl
    rw [ha, List.any_eq_true]
    exact ⟨fun ⟨x, _, h⟩ => ⟨x, h⟩, fun ⟨x, h⟩ => ⟨x, hm x, h⟩⟩

end Sys2Proof.Machine
end

