-- ==== Sys2Proof/Laws/Words.lean ====
section
/-! SUPPORT. What a word put together from fields shows, said once for the layouts of the registers. -/

namespace Sys2Proof.Machine

/-- A field is its value as a number placed at its bit. -/
theorem field_eq {w : Nat} (x : BitVec w) (lsb : Nat) : field x lsb = fieldN x.toNat lsb := by
  simp [field, fieldN]

theorem flag_eq (b : Bool) (lsb : Nat) : flag b lsb = fieldN b.toNat lsb := by cases b <;> rfl

theorem fieldN_zero (lsb : Nat) : fieldN 0 lsb = 0 := by simp [fieldN]

/-- The bits of a number placed at a bit. -/
theorem fieldN_getLsbD (n lsb i : Nat) :
    (fieldN n lsb).getLsbD i = (decide (i < 16 ∧ lsb ≤ i) && n.testBit (i - lsb)) := by
  by_cases h : i < 16
  · by_cases h2 : lsb ≤ i
    · have : i - lsb < 16 := by omega
      simp only [fieldN, BitVec.getLsbD_shiftLeft, BitVec.getLsbD_ofNat, h, h2, this, Nat.not_lt.mpr h2, and_self,
        decide_true, decide_false, Bool.not_false, Bool.and_true, Bool.true_and]
    · simp [fieldN, h, h2, Nat.not_le.mp h2]
  · simp [fieldN, h]

/-- A word put together from values that fit their fields shows those fields. -/
theorem Shows.of_fields {w : Word} {fields : List (Nat × Nat × Nat)}
    (hw : w = fields.foldr (fun f v => fieldN f.2.2 f.2.1 ||| v) 0)
    (hf : ∀ f ∈ fields, f.2.2 < 2 ^ (f.1 + 1 - f.2.1)) : Shows w fields := by
  intro i
  subst hw
  induction fields with
  | nil => simp
  | cons f rest ih =>
    have h := ih fun g hg => hf g (List.mem_cons_of_mem _ hg)
    rw [List.foldr_cons, BitVec.getLsbD_or, h, List.any_cons, fieldN_getLsbD]
    congr 1
    by_cases hi : i.val ≤ f.1
    · simp [i.isLt, hi]
    · by_cases hl : f.2.1 ≤ i.val
      · have : f.2.2.testBit (i.val - f.2.1) = false :=
          Nat.testBit_lt_two_pow (Nat.lt_of_lt_of_le (hf f List.mem_cons_self) (Nat.pow_le_pow_right (by omega) (by omega)))
        simp [this]
      · simp [hl]

end Sys2Proof.Machine
end

