-- ==== Sys2Proof/Tests/Slice0.lean ====
section
/-! SUPPORT. Small tests of the model, each about one command on a small state, with results worked out from the manual; and
for every statement with hypotheses a witness: states and operands that meet them. -/

namespace Sys2Proof.Tests

open Machine

-- One test after the other: each kernel evaluation would take a thread with a large stack.
set_option Elab.async false

/-- The state a command leaves. -/
def after (c : Instr) (s : State) : State :=
  match exec c s with
  | .next t => t
  | .fault _ => s
  | .refused _ => s

/-- Samples with every line low, no droop, SAFE_IN high and the window marks low. -/
def quiet : Samples := ⟨0, false, true, 0⟩

/-- A frame with tag 5, no fill and nothing in between, taken in the next tick. -/
def fr : Frame := ⟨5, [], [], some quiet⟩

/-- A state whose input pins stand at these levels. -/
def standing (inp : Samples) (s : State) : State := { s with pins := { s.pins with inputs := inp } }

/-- The reset state with an empty cause set and every channel NORMAL, its pins quiet. -/
def run : State :=
  standing quiet { State.reset with causes := 0, chans := Vector.replicate 4 { Chan.reset with st := .normal } }

/-- A state with channel k replaced. -/
def withChan (k : Channel) (c : Chan) (s : State) : State := s.setChan k c

/-- A state with line k enabled and its conditioner and contribution as given. -/
def withLine (k : LineNo) (cfg : LineCfg) (c : Cond) (x : Option Contribution) (s : State) : State :=
  s.setLine k ⟨cfg, c, x, 0⟩

/-- A state with an active entry replaced. -/
def withEntry (src : Source) (e : Entry) (s : State) : State :=
  { s with staging := { s.staging with actTab := s.staging.actTab.set src.val e src.isLt } }

/-- A state with channel k's active block replaced. -/
def withBlock (k : Channel) (c : ChanCfg) (s : State) : State :=
  { s with staging := { s.staging with actCh := s.staging.actCh.set k.val c k.isLt } }

/-- A state with a source pending. -/
def withPend (src : Source) (p : Pend) (s : State) : State := s.setPend src (some p)

/-- An ACTION's four argument bytes. -/
def args (a b c d : Byte) : Quad := ⟨a, b, c, d⟩

/-! ### The checks of well-formedness refuse an ill-formed command each -/

theorem test_wellFormed_refuses :
    (Instr.write fr 0x60 2 [0x0201]).wf = false ∧ (Instr.write fr 0x60 17 [0]).wf = false ∧
    (Instr.lineEnable fr 3 0x0006).wf = false ∧ (Instr.lineDisable fr 3 0x0007).wf = false ∧
    (Instr.shadowWrite fr 0x5F [1]).wf = false ∧ (Instr.shadowWrite fr 0x97 [1, 2]).wf = false ∧
    (Instr.shadowWrite fr 0x60 []).wf = false ∧ (Instr.unknownActionCode fr 21 Quad.zero).wf = false := by decide +kernel

/-- FRAME_ERROR on a frame that passes its checks (a NULL: 0x05 and its CRC-8) is ill-formed. -/
theorem test_wellFormed_refuses_good_frame : (Instr.frameError [0x05, crc8 [0x05]] ⟨[], none⟩).wf = false := by decide +kernel

/-- What happens while nCS is low stands in order and within the transaction; READ_SNAPSHOT has no fill. -/
theorem test_wellFormed_refuses_disorder :
    (Instr.null ⟨5, [], [⟨2, .tick quiet⟩, ⟨1, .tick quiet⟩], none⟩).wf = false ∧
    (Instr.null ⟨5, [], [⟨3, .tick quiet⟩], none⟩).wf = false ∧
    (Instr.readSnapshot ⟨5, [0], [], none⟩ ⟨0, 1⟩).wf = false := by decide +kernel

theorem test_wellFormed_accepts :
    (Instr.write fr 0x60 2 [0x0201, 0x8006]).wf = true ∧ (Instr.write fr 0x60 17 []).wf = true ∧
    (Instr.lineEnable fr 3 0x0007).wf = true ∧ (Instr.lineDisable fr 3 0x0006).wf = true ∧
    (Instr.shadowWrite fr 0x97 [1]).wf = true ∧ (Instr.unknownActionCode fr 22 Quad.zero).wf = true ∧
    (Instr.frameError [0x05] ⟨[], none⟩).wf = true := by decide +kernel

/-! ### Numbers -/

/-- The check values of R43 and R156 over "123456789". -/
theorem test_crc_check_values :
    crc16 [0x3132, 0x3334, 0x3536, 0x3738] = crc16Word (crc16Word (crc16Word (crc16Word 0xFFFF 0x3132) 0x3334) 0x3536) 0x3738 ∧
    crc8 [0x31, 0x32, 0x33, 0x34, 0x35, 0x36, 0x37, 0x38, 0x39] = 0xF4 ∧
    crc16Byte (crc16 [0x3132, 0x3334, 0x3536, 0x3738]) 0x39 = 0x29B1 := by decide +kernel

/-- The address map at the ends of its rows and in its holes (Table 11-2). -/
theorem test_address_map :
    regAt 0x0B = some (.wdgstat 2) ∧ regAt 0x0C = none ∧ regAt 0x0F = none ∧ regAt 0x10 = some (.linemode 0) ∧
    regAt 0x4F = some (.linecap 15) ∧ regAt 0x55 = none ∧ regAt 0x8B = some (.shtab 21 true) ∧
    regAt 0x8C = some (.shch 0 0) ∧ regAt 0x97 = some (.shch 3 2) ∧ regAt 0x9F = some (.lineglt 7) ∧
    regAt 0xCB = some (.acttab 21 true) ∧ regAt 0xD7 = some (.actch 3 2) ∧ regAt 0xDB = none ∧
    regAt 0xE7 = some (.chstat 3 true) ∧ regAt 0xF5 = some (.jrnlHead 5) ∧ regAt 0xFC = none ∧ regAt 0x100 = none := by
  decide +kernel

/-- Register words right after a POR (chapter Resets, Counters and Register Map, summary of reset effects). -/
theorem test_reset_words :
    Reg.clkstat.read State.reset = 0 ∧ Reg.rstcause.read State.reset = 0x0100 ∧
    Reg.wdgcfg.read State.reset = 0x0010 ∧ (Reg.shtab 0 false).read State.reset = 0x020F ∧
    (Reg.acttab 21 true).read State.reset = 0x8004 ∧ (Reg.shch 0 0).read State.reset = 0x8154 ∧
    (Reg.chstat 0 false).read State.reset = 0x8000 ∧ (Reg.safestat false).read State.reset = 0x8001 ∧
    (Reg.safestat true).read State.reset = 0x0001 ∧ (Reg.pending true).read State.reset = 0x1F00 ∧
    (Reg.stackview 0).read State.reset = 0x1F00 ∧ Reg.commitstat.read State.reset = 0 ∧
    (Reg.outstat 0).read State.reset = 0x0100 ∧ (Reg.outstat 1).read State.reset = 0x1111 := by decide +kernel

/-! ### Lines and marks: the worked examples of sections 2.9, 4.13 and 4.14 -/

/-- FIN7 of section 2.9: polarity ActiveLow, AF 3, RF 10, Record-clear on. -/
def fin7 : LineCfg := ⟨true, true, true, 3, 10⟩

/-- Ticks 101, 103, 106 and 107 of section 2.9, on the conditioner. -/
theorem test_bouncing_comparator :
    (after (.tick { quiet with fin := 0x0000 }) (withLine 7 fin7 .idle none run)).lines[7].cond = .qualifying 0 3 ∧
    (after (.tick { quiet with fin := 0x0080 }) (withLine 7 fin7 (.qualifying 1 3) none run)).lines[7] =
      ⟨fin7, .idle, none, 1⟩ ∧
    (after (.tick { quiet with fin := 0x0000 })
      (withLine 7 { fin7 with af := 5 } (.qualifying 1 3) none run)).lines[7].cond = .qualifying 2 3 := by decide +kernel

/-- LINE_ASSERT at tick 107: class Cycle, mask CH0, level 5 is captured, CH0 enters CYCLE, source 7 becomes pending. -/
theorem test_lineAssert_captures :
    let t := after (.lineAssert 7)
      (withEntry 7 ⟨.cycle, 0x1, 5, true⟩ (withLine 7 fin7 (.qualifying 2 3) none run))
    t.lines[7].contrib = some ⟨.cycle, 0x1, 5⟩ ∧ t.chans[0].st = .cycle ∧ t.chans[1].st = .normal ∧
    t.arb.pend[7] = some ⟨1, some 0⟩ := by decide +kernel

/-- LINE_CLEAR at tick 121: the contribution is dropped, CH0 stays in CYCLE until its mark, and a Clear record is stored. -/
theorem test_lineClear_drops :
    let t := after (.lineClear 7)
      (withChan 0 { Chan.reset with st := .cycle } (withLine 7 fin7 (.releasing 9 10) (some ⟨.cycle, 0x1, 5⟩) run))
    t.lines[7].contrib = none ∧ t.pins.inputs.fin = 0x0080 ∧ t.chans[0].st = .cycle ∧
    t.journal.queue.map (·.body.kind) = [.clear false] := by decide +kernel

/-- CH0's block of section 4.13: EC 3, MT 20, latch-clear timing AtMark. -/
def ch0Block : ChanCfg := { ChanCfg.default with clearAtMark := true, ec := 3, mt := 20 }

/-- Section 4.13 before a mark: FIN4 holds Cycle on CH0, the channel is in CYCLE with these counts, WM0 was low. -/
def beforeMark (persist : Byte) (timer : BitVec 20) (present : Bool) : State :=
  let x := if present then some ⟨.cycle, 0x1, 5⟩ else none
  let s := withLine 4 ⟨true, false, true, 0, 0⟩ (if present then .asserted else .idle) x run
  let s1 := withBlock 0 ch0Block (withChan 0 { Chan.reset with st := .cycle, persist := persist, timer := timer } s)
  standing { quiet with fin := if present then 0x0010 else 0 } { s1 with time := { s1.time with wmPrev := some 0 } }

/-- Ticks 1150 and 1550 of section 4.13, case A. -/
theorem test_mark_counts_and_escalates :
    (after (.mark 0) (beforeMark 0 149 true)).chans[0].persist = 1 ∧
    (after (.mark 0) (beforeMark 0 149 true)).chans[0].timer = 0 ∧
    (after (.escalatePersist 0) (beforeMark 2 199 true)).chans[0].st = .latched ∧
    (after (.escalatePersist 0) (beforeMark 2 199 true)).journal.queue.map (·.body.kind) = [.escalate .persist] := by
  decide +kernel

/-- Tick 1670 of section 4.13, case B: at 319 one more tick without a mark escalates, at 318 it does not. -/
theorem test_starvation :
    (after (.escalateStarved 0) (beforeMark 2 319 true)).journal.queue.map (·.body.kind) = [.escalate .starved] ∧
    (after (.escalateStarved 0) (beforeMark 2 318 true)).chans[0].st = .cycle ∧
    (after (.tick { quiet with fin := 0x0010 }) (beforeMark 2 319 true)).chans[0].st = .latched := by decide +kernel

/-- Section 4.14: CLEAR_LATCH of CH0-CH2 is refused whole with NotLatched and codes 1, 2, 4, 0. -/
theorem test_refused_clear :
    let s := withLine 9 ⟨true, false, false, 0, 0⟩ .asserted (some ⟨.latch, 0xC, 4⟩)
      { run with chans := Vector.replicate 4 Chan.reset }
    let t := after (.clearLatch fr (args 0x07 0 0 0)) (withChan 1 { Chan.reset with st := .clearing, ind := .pending } s)
    t.link.result = ⟨3, 5, 0x84, ⟨0, 0, 0x12, 0x40⟩⟩ ∧ t.chans[0].st = .latched := by decide +kernel

/-! ### Outputs: section 5.8 -/

/-- CH2 of section 5.8. -/
def ch2Block : ChanCfg := { ChanCfg.default with latchB := .pass }

/-- Ticks 3060 and 3075: under a latch with a cycle cause GB2 is in layer 3, without one it follows PB2 in layer 5. -/
theorem test_layers :
    let s := withBlock 2 ch2Block (withChan 2 Chan.reset run)
    let held := withLine 6 ⟨true, false, false, 0, 0⟩ .asserted (some ⟨.cycle, 0x4, 4⟩) s
    let t := after (.tick { quiet with fin := 0x0040 }) held
    let u := after (.tick quiet) s
    t.outs.layers[2] = .latch ∧ t.outs.layers[6] = .cycle ∧ u.outs.layers[2] = .latch ∧ u.outs.layers[6] = .pwm ∧
    (after (.pwmInputEdge 2 .b true) u).outLevel 6 = true ∧ (after (.pwmInputEdge 2 .b true) t).outLevel 6 = false := by
  decide +kernel

/-- Tick 3090: in Safe-Hold every output takes its SAFEPAT bit, and nSAFE is asserted. -/
theorem test_safe_pattern :
    let t := after (.forceSafe fr Quad.zero) { run with safepat := 0x40 }
    (after (.tick quiet) t).outs = ⟨Vector.replicate 8 .safe, 0x40, true, false⟩ ∧ t.causes = 0x10 ∧
    t.chans[3].st = .latched := by decide +kernel

/-! ### Safe-Hold: section 6.10 -/

/-- EXIT_SAFE with echo 0x02 meets the set 0x22 while SAFE_IN is active: EchoMismatch with 0x22 and 0x04. -/
theorem test_exit_overtaken :
    let s := { run with
      causes := 0x22, safeIn := .asserted, staging := { run.staging with tableValid := true }
      link := { run.link with confirm := some ⟨11, 0x4A⟩ } }
    let t := after (.exitSafe fr (args 0x02 0 0 0x4A)) s
    t.link.result = ⟨3, 5, 0x87, ⟨0x22, 0x04, 0, 0⟩⟩ ∧ t.causes = 0x22 ∧ t.link.confirm = none := by decide +kernel

/-- With SAFE_IN inactive again, echo 0x22 empties the set and makes a SafeExit record. -/
theorem test_exit_succeeds :
    let s := { run with
      causes := 0x22, staging := { run.staging with tableValid := true }
      link := { run.link with confirm := some ⟨11, 0x4A⟩ } }
    let t := after (.exitSafe fr (args 0x22 0 0 0x4A)) s
    t.causes = 0 ∧ t.journal.queue.map (·.body.kind) = [.safeExit] ∧ t.link.result.outcome = 0x00 := by decide +kernel

/-- The eighth low sample of SAFE_IN enters Safe-Hold with cause INPUT. -/
theorem test_safeIn_active :
    (after .safeInActive { run with safeIn := .qualifying 6 7 }).causes = 0x20 ∧
    (after .safeInActive { run with safeIn := .qualifying 5 7 }).causes = 0 ∧
    (after .safeInInactive { run with safeIn := .releasing 6 7 }).safeIn = .idle := by decide +kernel

/-! ### Journal: section 7.12 -/

/-- A record of a kind that is unprotected, and one that is protected. -/
def plain (seq : Word) : Rec := ⟨seq, 0, ⟨.clear false, some 6, 1, none, 0⟩⟩
/-- An Escalate record. -/
def prot (seq : Word) : Rec := ⟨seq, 0, ⟨.escalate .persist, none, 1, none, 0⟩⟩

/-- A journal of `n` unprotected records behind `m` protected ones, threshold 28. -/
def filled (m n : Nat) : Journal :=
  ⟨(List.range m).map (fun i => prot (BitVec.ofNat 16 i)) ++ (List.range n).map (fun i => plain (BitVec.ofNat 16 (m + i))),
    BitVec.ofNat 16 (m + n), 0, 0, 0, false, 28⟩

/-- Ticks 9001, 9002, 9011 and 9021: stored at 27, dropped at 28, a protected record stored at 28, evicting at 32. -/
theorem test_full_journal :
    let p : RecBody := ⟨.clear false, some 6, 1, none, 0⟩
    let q : RecBody := ⟨.escalate .persist, none, 2, none, 0⟩
    ((filled 2 25).offer p).journal.queue.length = 28 ∧ ((filled 2 26).offer p).journal.queue.length = 28 ∧
    ((filled 2 26).offer p).journal.lostCnt = 1 ∧ ((filled 2 26).offer q).journal.queue.length = 29 ∧
    (((filled 6 26).offer q).journal.queue.map (·.seq)).take 7 = [0, 1, 2, 3, 4, 5, 7] ∧
    ((filled 6 26).offer q).journal.evictCnt = 1 ∧
    (({ run with journal := filled 2 25 } : State).record p).isPending jth = true ∧
    (({ run with journal := filled 2 26 } : State).record q).isPending jth = false := by decide +kernel

/-- JOURNAL_POP names the head: OK with the occupancy left, or SeqMismatch with the head's seq. -/
theorem test_journalPop :
    let s := { run with journal := filled 2 3 }
    (after (.journalPop fr (args 0 0 0 0)) s).link.result = ⟨3, 5, 0x00, ⟨0, 0, 4, 0⟩⟩ ∧
    (after (.journalPop fr (args 0 1 0 0)) s).link.result = ⟨3, 5, 0x89, ⟨0, 0, 5, 0⟩⟩ := by decide +kernel

/-! ### Service: sections 8.10 and 10.10 -/

/-- ACCEPT of section 10.10 (T1), and its replay (T3): the payload 0x84, 0x02, 0x03, 0x2C twice, one hand-over. -/
theorem test_replayed_accept :
    let t := after (.accept fr Quad.zero) (withPend 4 ⟨2, some 812⟩ run)
    let u := after (.accept fr Quad.zero) t
    t.link.result = ⟨3, 5, 0x00, ⟨0x84, 0x02, 0x03, 0x2C⟩⟩ ∧ t.arb.sl = 4 ∧
    u.link.result = ⟨3, 5, 0x40, ⟨0x84, 0x02, 0x03, 0x2C⟩⟩ ∧ u.arb.stack = t.arb.stack ∧ u.counters.spur = 0 := by decide +kernel

/-- The stack of section 8.10 at tick 20720. -/
def stack3 : List StackEntry := [⟨5, 20, some 404⟩, ⟨3, 8, some 402⟩, ⟨0, 2, some 400⟩]

/-- Ticks 20730 to 20810 of section 8.10. -/
theorem test_nested_service :
    let s := { run with arb := { run.arb with sl := 10, stack := stack3 } }
    (after (.setLevel fr Quad.zero) s).link.result = ⟨3, 5, 0x8C, ⟨10, 10, 3, 0⟩⟩ ∧
    (after (.done fr (args 8 0 0 0)) s).link.result = ⟨3, 5, 0x8B, ⟨20, 10, 3, 0⟩⟩ ∧
    (after (.done fr (args 20 0 0 0)) s).arb.sl = 5 ∧
    (after (.done fr (args 20 0 0 0)) s).arb.stack = stack3.tail := by decide +kernel

/-- HOLDOFF 2000 takes HD to 2000; a lower value leaves it, and 0 ends it (R138). -/
theorem test_holdoff :
    (after (.holdoff fr (args 0x07 0xD0 0 0)) run).arb.hd = 2000 ∧
    (after (.holdoff fr (args 0x00 0x01 0 0)) { run with arb := { run.arb with hd := 2000 } }).arb.hd = 2000 ∧
    (after (.holdoff fr (args 0 0 0 0)) { run with arb := { run.arb with hd := 2000 } }).arb.hd = 0 := by decide +kernel

/-! ### Supervisor: section 9.9 -/

/-- The supervisor of section 9.9: CW 2, OW 1. -/
def armedWdg (st : WdgState) (token : Byte) (timer : Nat) (length : Byte) (lnk : Option Contribution) : State :=
  let s := withEntry lnkSrc ⟨.cycle, 0x3, 0, true⟩ run
  { s with wdg := ⟨2, 1, st, token, timer, length, false, lnk⟩ }

/-- Ticks 12048 (the timer reaches 2048) and 15572 (the late violation: CH0 and CH1 enter CYCLE). -/
theorem test_window_ends :
    (after .windowOpen (armedWdg .closed 0 2047 2 none)).wdg.st = .opened ∧
    (after .windowOpen (armedWdg .closed 0 2046 2 none)).wdg.st = .closed ∧
    (after .lateViolation (armedWdg .opened 1 1023 1 none)).wdg.lnk = some ⟨.cycle, 0x3, 9⟩ ∧
    (after .lateViolation (armedWdg .opened 1 1023 1 none)).chans[1].st = .cycle ∧
    (after .lateViolation (armedWdg .opened 1 1023 1 none)).chans[2].st = .normal := by decide +kernel

/-- Ticks 15700 and 15800: BadToken with expected token 1, then OK with a Clear record. -/
theorem test_keepalive_in_lapsed :
    let s := armedWdg .lapsed 1 100 1 (some ⟨.cycle, 0x3, 9⟩)
    (after (.keepalive fr (args 0 0 0 0)) s).link.result = ⟨3, 5, 0x91, ⟨3, 1, 0, 3⟩⟩ ∧
    (after (.keepalive fr (args 1 0 0 0)) s).wdg = ⟨2, 1, .closed, 2, 0, 2, true, none⟩ ∧
    (after (.keepalive fr (args 1 0 0 0)) s).journal.queue.map (·.body.kind) = [.clear false] := by decide +kernel

/-! ### Resets: section 11.9 -/

/-- A TBL raise with CLK pending ends in a Protective reset by conflict: the set 0x0D, RSTCAUSE 0x7 with bit 11. -/
theorem test_conflict :
    let s := withPend clkSrc ⟨1, none⟩
      { run with
        causes := 0x08, staging := { run.staging with tableValid := true }
        scrub := ⟨21, 63, 0xFFFF, 0, false⟩ }
    let t := after .scrubPassEnd s
    t.causes = 0x0D ∧ Reg.rstcause.read t = 0x0907 ∧ t.link.result = ⟨0, 0, 0x0A, ⟨3, 1, 0, 0⟩⟩ ∧
    t.staging.tableValid = false ∧
    t.journal.queue.map (·.body.kind) =
      [.safeEntry .table false, .assert 10 none, .resetMark (.prot .conflict), .safeEntry .startup false] := by decide +kernel

/-- A PIN keeps the earlier sticky bits and sets its own; a POR leaves its own alone (R173). -/
theorem test_pin_and_por :
    (after .pinReset State.reset).rstcause = ⟨.pin, 3⟩ ∧ (after .por (after .pinReset State.reset)).rstcause = ⟨.por, 1⟩ ∧
    (after (.tick quiet) (after .pinReset run)).time.tstamp = 0 := by decide +kernel

/-! ### The link -/

/-- A READ of TSTAMP_LO and TSTAMP_HI at a boundary shifts out eight bytes of result and then the words with their CRC (R4,
R6, R158, R161). -/
theorem test_read :
    let s := { run with time := { run.time with tstamp := 0x00010002 } }
    let t := after (.read ⟨1, List.replicate 9 0, [], some quiet⟩ 0x00 2 (some quiet)) s
    t.time.hold = 1 ∧ (t.link.sdo.drop 8).take 4 = [0x00, 0x02, 0x00, 0x01] ∧
    t.link.sdo.getD 12 0 = crc8 [0x00, 0x02, 0x00, 0x01] ∧ t.link.result = ⟨1, 1, 0x00, ⟨0, 2, 0, 0⟩⟩ := by decide +kernel

/-- A READ of TSTAMP_LO whose nCS rises after its CRC byte captures at the next boundary and answers that one fell in time,
also if it is then judged FrameCrc; with stream byte 8 begun before the boundary it does neither (R4, R6, R161). -/
theorem test_read_ends_before_its_boundary :
    let s := { run with time := { run.time with tstamp := 0x00010002 } }
    let t := after (.read fr 0x00 1 none) s
    let bad := after (.frameError [0x45, 0x00, 0x01, 0xFF] ⟨[], some quiet⟩) s
    let late := after (.read { fr with fill := List.replicate 5 0 } 0x00 1 none) s
    (t.time.hold, t.link.result) = (1, ⟨1, 5, 0x00, ⟨0, 1, 0, 0⟩⟩) ∧ (bad.time.hold, bad.link.result.outcome) = (1, 0x02) ∧
    (late.time.hold, late.link.result) = (0, ⟨1, 5, 0x00, ⟨0, 1, 1, 0⟩⟩) := by decide +kernel

/-- A WRITE of two words, the first of them read-only, stores neither (R162). -/
theorem test_write_is_all_or_nothing :
    (after (.write fr 0x07 2 [0xFFFF, 0x0102]) run).link.result = ⟨2, 5, 0x06, ⟨0x07, 0, 0, 0⟩⟩ ∧
    (after (.write fr 0x07 2 [0xFFFF, 0x0102]) run).wdg.ow = 16 ∧
    (after (.wdgcfgWrite fr 0x0102) run).wdg.ow = 2 ∧
    (after (.write fr 0x60 17 []) run).link.result.outcome = 0x04 := by decide +kernel

/-- A short frame and one with a wrong CRC are counted and answered (R157). -/
theorem test_frame_errors :
    (after (.frameError [0xC5, 0x01] ⟨[], some quiet⟩) run).link.result = ⟨3, 5, 0x03, ⟨2, 7, 0, 0⟩⟩ ∧
    (after (.frameError [0x05, 0x00] ⟨[], some quiet⟩) run).link.result = ⟨0, 5, 0x02, ⟨0x00, crc8 [0x05], 2, 0⟩⟩ ∧
    (after (.frameError [0x05, 0x00] ⟨[], some quiet⟩) run).counters.err = 1 := by decide +kernel

/-- The bytes of an ACCEPT with tag 5 (header 0xC5, code 1, four argument bytes) are an ACCEPT, and a NULL (header 0x05) is
nothing; a byte changed under the same CRC is a FrameCrc (R156, R157). -/
theorem test_bytes_are_their_command :
    let bytes : List Byte := [0xC5, 0x01, 0, 0, 0, 0, crc8 [0xC5, 0x01, 0, 0, 0, 0]]
    actionBytes 5 1 Quad.zero = bytes ∧ judge bytes false = some (.action 5 1 Quad.zero) ∧
    judge [0x05, crc8 [0x05]] false = none ∧
    writeBytes 5 0x08 1 [0x0210] = [0x85, 0x08, 0x01, 0x02, 0x10, crc8 [0x85, 0x08, 0x01, 0x02, 0x10]] ∧
    readBytes 5 0x02 1 = [0x45, 0x02, 0x01, crc8 [0x45, 0x02, 0x01]] ∧
    (judge (0xC6 :: bytes.tail) false).isSome = true := by decide +kernel

/-- A confirmed RESET_DEVICE that waits for the next tick. -/
def resetting : State :=
  { run with link := { run.link with confirm := some ⟨18, 0⟩, waiting := [.action 5 18 Quad.zero] } }

/-- The tick within a NULL performs the reset that waited: the byte after it goes out as 0x00, nothing is judged, and the
result is the ResetNotice (R168). -/
theorem test_reset_abandons_the_transaction :
    let t := after (.frameError [0xC5, 0x01] ⟨[⟨1, .tick quiet⟩], none⟩) resetting
    t.link.sdo.drop 1 = [0x00] ∧ t.link.waiting = [] ∧ t.counters.err = 0 ∧ t.link.result.outcome = 0x0A := by
  decide +kernel

/-- A frame sent while a tick is in progress is taken in the next tick, after the rest of this one (R3), and its stream shows
the record that this tick stored. -/
theorem test_two_frames :
    let t := after (.lock fr Quad.zero) run
    let u := after (.accept ⟨6, [0], [], none⟩ Quad.zero) t
    t.tick.isSome = true ∧ u.tick.isNone = true ∧ u.link.waiting = [.action 6 1 Quad.zero] ∧ u.link.sdo.getD 1 0 = 0xC5 ∧
    u.time.tstamp = t.time.tstamp := by decide +kernel

/-- LINE_ASSERT of line 3 leaves the lines before it evaluated, and the TICK after it ends that tick first (R13, R14). -/
theorem test_event_keeps_the_order :
    let c : LineCfg := ⟨true, false, false, 0, 0⟩
    let s := withLine 0 c .idle none (withLine 3 c .idle none (withLine 5 c .idle none run))
    let t := after (.lineAssert 3) (standing { quiet with fin := 0x0029 } s)
    t.lines[0].cond = .asserted ∧ t.lines[3].cond = .asserted ∧ t.lines[5].cond = .idle ∧
    t.journal.queue.map (·.body.source) = [some 0, some 3] ∧
    t.settle.journal.queue.map (·.body.source) = [some 0, some 3, some 5] := by decide +kernel

/-- A loss of REFCLK made while a tick is in progress is handled in the next one (R7, R8). -/
theorem test_clock_loss_in_the_next_tick :
    let t := after .refclkMissing (after (.lock fr Quad.zero) run)
    t.isPending clkSrc = false ∧ t.clk.mon = .lost ∧ t.exitFailing &&& 0x02 = 0 ∧
    (after .clkRaise t).isPending clkSrc = true := by decide +kernel

/-- A commit needs the CRC of the shadow; a CHANNEL commit copies the block and is recorded (R43-R45). -/
theorem test_commit :
    let s := { run with staging := { run.staging with shCh := run.staging.shCh.set 0 { ChanCfg.default with ec := 9 } } }
    let own := crc16 [0x8154, 0x0009, 0x0000]
    let t := after (.commit fr (args 1 0 (hiByte own) (loByte own))) s
    t.staging.actCh[0].ec = 9 ∧ t.journal.queue.map (·.body.kind) = [.commitApplied (.channel 0)] ∧
    (after (.commit fr (args 1 0 (~~~ hiByte own) (loByte own))) s).link.result.outcome = 0x83 ∧
    (after (.commit fr (args 1 0x11 0 0)) s).link.result.outcome = 0x81 := by decide +kernel

/-! ### Witnesses: states and operands that meet the hypotheses of each statement -/

/-- The state that the phase 1 step of a frame of n bytes finds, if nothing waits. -/
def up (n : Nat) (s : State) : State := s.upAt quiet n

theorem taken_up {s : State} {bytes : List Byte} (hb : bytes ≠ []) (h1 : s.inReset = false) (h2 : s.tick = none)
    (h3 : s.link.flight = none) (h4 : s.link.waiting = []) (hk : headerKind bytes ≠ 1 := by decide +kernel) :
    Taken fr bytes s (up bytes.length s) := by
  cases bytes with
  | nil => exact absurd rfl hb
  | cons b rest => exact ⟨_, Lands.quiet b rest h1 h2 h3 h4 rfl rfl hk⟩

theorem word_up {s : State} {addr : Byte} {w : Word} (h1 : s.inReset = false) (h2 : s.tick = none)
    (h3 : s.link.flight = none) (h4 : s.link.waiting = []) : TakenWord fr addr w s (up 6 s) :=
  taken_up (bytes := writeBytes fr.tag addr 1 [w]) (by simp [writeBytes, sealFrame]) h1 h2 h3 h4
    (by simp [writeBytes, sealFrame, headerKind])

theorem action_up {s : State} {code : Byte} {q : Quad} (h1 : s.inReset = false) (h2 : s.tick = none)
    (h3 : s.link.flight = none) (h4 : s.link.waiting = []) (h5 : s.link.replay = none) :
    TakenAction fr code q s (up 7 s) :=
  ⟨taken_up (bytes := actionBytes fr.tag code q) (by simp [actionBytes, sealFrame]) h1 h2 h3 h4
    (by simp [actionBytes, sealFrame, headerKind]), by
    have : (up 7 s).link.replay = none := h5
    simp [Link.replayOf, this]⟩

/-- A frame of these bytes is taken in phase 1 of the next tick. -/
def landsAt (f : Frame) (bytes : List Byte) (s : State) : Bool :=
  !s.inReset &&
  match (s.transfer (bytes ++ f.fill) f.during).link.flight, f.next with
  | some q, some inp =>
    let u := (s.transfer (bytes ++ f.fill) f.during).lift
    !q.dead && (match applyAll u.link.waiting (u.beginTick inp).noWaiting with | .goes _ => true | .abandoned _ => false)
  | _, _ => false

theorem lands_at {f : Frame} {bytes : List Byte} {s : State} (h : landsAt f bytes s = true) :
    ∃ q s1, Lands f bytes q s s1 := by
  unfold landsAt at h
  dsimp only at h
  split at h
  · rename_i q inp hq hn
    simp only [Bool.and_eq_true, Bool.not_eq_true'] at h
    obtain ⟨h1, h2, h3⟩ := h
    split at h3
    · rename_i s1 hs
      exact ⟨q, s1, h1, h2, hq, inp, _, hn, rfl, hs⟩
    · cases h3
  · simp at h

/-- The state that an event's item finds, in the tick in progress or in the next one. -/
def found (e : Event) (s : State) : State :=
  match s.reach none e.item with
  | some s1 => s1
  | none => (s.reach (some (s.driven e)) e.item).getD s

/-- The samples of the tick in progress. -/
def inpOf (s : State) : Samples :=
  match s.tick with
  | some t => t.inp
  | none => quiet

/-- An event's item is found. -/
def opensAt (e : Event) (s : State) : Bool :=
  !s.inReset && ((s.reach none e.item).isSome || (s.reach (some (s.driven e)) e.item).isSome) &&
  match (found e s).tick with
  | some ⟨_, j :: _⟩ => j == e.item (found e s)
  | _ => false

theorem item_at {e : Event} {s : State} (h : opensAt e s = true) : ItemOpen e (inpOf (found e s)) s (found e s) := by
  unfold opensAt at h
  simp only [Bool.and_eq_true, Bool.not_eq_true', Bool.or_eq_true] at h
  obtain ⟨⟨h1, h2⟩, h3⟩ := h
  refine ⟨h1, ?_, ?_⟩
  · cases hn : s.reach none e.item with
    | some s1 => simp [found, hn]
    | none =>
      rw [hn] at h2
      obtain ⟨u, hu⟩ := Option.isSome_iff_exists.mp (h2.resolve_left (by simp))
      exact .inr ⟨by simp [State.meets, hn, Option.filter], by simp [found, hn, hu]⟩
  · split at h3
    · rename_i x j rest ht
      exact ⟨rest, by simp only [inpOf, ht, beq_iff_eq.mp h3]⟩
    · cases h3

theorem test_witness_StepTakesTheFrontCommand : run.pending = [] := rfl

/-- A state whose reference CRC is its active table's. -/
def withRef (s : State) : State :=
  { s with scrub := { s.scrub with ref := crc16 (tableWords s.staging.actTab) } }

theorem withRef_ref (s : State) : (withRef s).scrub.ref = crc16 (tableWords (withRef s).staging.actTab) := rfl

/-- The reset state with a held contribution, a pending hard critical, a valid table and a service stack. -/
def faulted : State :=
  let s := withPend 20 ⟨1, none⟩
    (withLine 6 ⟨true, false, false, 0, 0⟩ .asserted (some ⟨.latch, 0x4, 4⟩) State.reset)
  { s with
    staging := { s.staging with tableValid := true }
    scrub := ⟨0, 5, 0xFFFF, 0, false⟩
    arb := { s.arb with sl := 10, stack := stack3 }
    pending := [.tick quiet] }

/-- A state in which every relation says something. -/
def busy : State := withRef faulted

theorem test_witness_relations :
    HoldLatches busy ∧ (CausesTracked busy ∧ ChannelsTidy busy) ∧ JournalFits busy ∧ StackFits busy ∧
    PendingNotifies busy ∧ SupervisorFits busy ∧ (ContributionsFit busy ∧ CountsFit busy) ∧ ClockFits busy ∧
    ScrubberFits busy ∧ OutputsShown busy ∧ ∃ t, step busy = .next t := by
  refine ⟨?_, ⟨?_, ?_⟩, ?_, ?_, ?_, ?_, ⟨?_, ?_⟩, ?_, ⟨?_, fun _ => ⟨by decide +kernel, .inl (withRef_ref faulted)⟩⟩, ?_,
    _, rfl⟩
  · unfold HoldLatches; decide +kernel
  · unfold CausesTracked; decide +kernel
  · unfold ChannelsTidy; decide +kernel
  · unfold JournalFits; decide +kernel
  · exact ⟨by decide +kernel, fun _ => rfl, fun h => absurd h (by decide +kernel), fun h => absurd h (by decide +kernel), show 0 < 8 by decide +kernel⟩
  · unfold PendingNotifies; decide +kernel
  · unfold SupervisorFits; decide +kernel
  · unfold ContributionsFit; decide +kernel
  · refine ⟨fun k => ?_, trivial, trivial⟩
    have h : (busy.lines[k].cond = .idle ∨ busy.lines[k].cond = .asserted) := by revert k; decide +kernel
    rcases h with h | h <;> rw [h] <;> exact trivial
  · unfold ClockFits; decide +kernel
  · exact fun h => by cases h
  · show Shown busy; unfold Shown; decide +kernel

theorem test_witness_TickRunsItsFivePhases :
    (run.inReset = false ∧ run.tick = none ∧ run.link.waiting = [] ∧ run.wdg.st ≠ .lapsed ∧
      run.staging.tableValid = false ∧ run.clk.period.handOffs = [] ∧
      ∀ k : Channel, run.chans[k].markSeen = false ∧ run.chans[k].enteredCycle = false) ∧
    (let s := { run with staging := { run.staging with tableValid := true }, scrub := ⟨21, 62, 0, 0, false⟩ }
     s.wdg.st ≠ .lapsed ∧ s.scrub.pacing.val < 63 ∧ s.clk.period.handOffs = []) := by decide +kernel

theorem test_witness_HoldoffExpires :
    ∃ (inp : Samples) (s s1 : State), ItemOpen holdoffExpireEvent inp s s1 ∧ s1.arb.hd = 1 :=
  ⟨_, { run with arb := { run.arb with hd := 1 } }, _, item_at (by decide +kernel), by decide +kernel⟩

theorem test_witness_LineAssertCapturesAndTrips :
    (∃ (inp : Samples) (s s1 : State), ItemOpen (lineAssertEvent 15) inp s s1 ∧ s1.lines[15].cfg.enable = true ∧
      s1.lines[15].cfg.rawActive (inp.fin.getLsbD 15) = true ∧ s1.lines[15].cond = .idle ∧ s1.lines[15].cfg.af = 0) ∧
    (∃ (inp : Samples) (s s1 : State), ItemOpen (lineAssertEvent 0) inp s s1 ∧ s1.lines[0].cfg.enable = true ∧
      s1.lines[0].cfg.rawActive (inp.fin.getLsbD 0) = true ∧ s1.lines[0].cond = .qualifying 254 (254 + 1)) :=
  ⟨⟨_, withLine 15 { fin7 with af := 0 } .idle none run, _, item_at (by decide +kernel), by decide +kernel⟩,
   ⟨_, withLine 0 fin7 (.qualifying 254 255) none run, _, item_at (by decide +kernel), by decide +kernel⟩⟩

theorem test_witness_LineClearDropsTheContribution :
    (∃ (inp : Samples) (s s1 : State), ItemOpen (lineClearEvent 15) inp s s1 ∧ s1.lines[15].cfg.enable = true ∧
      s1.lines[15].cfg.rawActive (inp.fin.getLsbD 15) = false ∧ s1.lines[15].cond = .asserted ∧
      s1.lines[15].cfg.rf = 0) ∧
    (∃ (inp : Samples) (s s1 : State), ItemOpen (lineClearEvent 0) inp s s1 ∧ s1.lines[0].cfg.enable = true ∧
      s1.lines[0].cfg.rawActive (inp.fin.getLsbD 0) = false ∧ s1.lines[0].cond = .releasing 254 (254 + 1)) :=
  ⟨⟨_, withLine 15 { fin7 with rf := 0 } .asserted (some ⟨.cycle, 1, 5⟩) run, _, item_at (by decide +kernel),
     by decide +kernel⟩,
   ⟨_, withLine 0 fin7 (.releasing 254 255) (some ⟨.cycle, 1, 5⟩) run, _, item_at (by decide +kernel),
     by decide +kernel⟩⟩

theorem test_witness_SupplyDroopAssertsAndClears :
    (∃ (inp : Samples) (s s1 : State), ItemOpen supAssertEvent inp s s1 ∧ s1.sup.cond = .qualifying 14 (14 + 1) ∧
      inp.supLow = true) ∧
    (∃ (inp : Samples) (s s1 : State), ItemOpen supClearEvent inp s s1 ∧
      s1.sup = ⟨.releasing 254 (254 + 1), some ⟨.latch, 0xF, 8⟩⟩ ∧ inp.supLow = false) :=
  ⟨⟨_, { run with sup := ⟨.qualifying 14 15, none⟩ }, _, item_at (by decide +kernel), by decide +kernel⟩,
   ⟨_, { run with sup := ⟨.releasing 254 255, some ⟨.latch, 0xF, 8⟩⟩ }, _, item_at (by decide +kernel),
     by decide +kernel⟩⟩

theorem test_witness_SafeInActsOnSafeHoldAlone :
    (∃ (inp : Samples) (s s1 : State), ItemOpen safeInActiveEvent inp s s1 ∧ s1.safeIn = .qualifying 6 (6 + 1) ∧
      inp.safeIn = false) ∧
    (∃ (inp : Samples) (s s1 : State), ItemOpen safeInInactiveEvent inp s s1 ∧ s1.safeIn = .releasing 6 (6 + 1) ∧
      inp.safeIn = true) :=
  ⟨⟨_, { run with safeIn := .qualifying 6 7 }, _, item_at (by decide +kernel), by decide +kernel⟩,
   ⟨_, { run with safeIn := .releasing 6 7 }, _, item_at (by decide +kernel), by decide +kernel⟩⟩

theorem test_witness_AssertFilterTakesItsLatchedLength : 0 < (1 : Byte).toNat ∧ 254 < (255 : Byte).toNat := by decide +kernel

/-- A mark of channel k is due at its item, and the channel is in this state there. -/
def markDueIn (k : Channel) (s s1 : State) (st : TripState) : Prop :=
  ∃ inp : Samples, ItemOpen (markEvent k) inp s s1 ∧ s1.prevMark k = some false ∧
    s1.staging.actCh[k].edge.isMark false (inp.wm.getLsbD k.val) = true ∧ s1.chans[k].st = st

theorem test_witness_MarkActsByTripState :
    (∃ s s1, markDueIn 0 s s1 .cycle ∧ s1.heldOn .cycle 0 = false) ∧
    (∃ s s1, markDueIn 0 s s1 .cycle ∧ s1.heldOn .cycle 0 = true ∧
      (satInc s1.chans[0].persist).toNat < s1.staging.actCh[0].ec.toNat) ∧
    (∃ s s1, markDueIn 0 s s1 .cycle ∧ s1.heldOn .cycle 0 = true ∧
      s1.staging.actCh[0].ec.toNat ≤ (satInc s1.chans[0].persist).toNat) ∧
    (∃ s s1, markDueIn 0 s s1 .clearing) ∧
    (∃ s s1, markDueIn 3 s s1 .latched) :=
  ⟨⟨beforeMark 2 9 false, _, ⟨_, item_at (by decide +kernel), by decide +kernel⟩, by decide +kernel⟩,
   ⟨beforeMark 1 9 true, _, ⟨_, item_at (by decide +kernel), by decide +kernel⟩, by decide +kernel⟩,
   ⟨beforeMark 2 9 true, _, ⟨_, item_at (by decide +kernel), by decide +kernel⟩, by decide +kernel⟩,
   ⟨withChan 0 { Chan.reset with st := .clearing } (beforeMark 0 0 true), _, _, item_at (by decide +kernel),
     by decide +kernel⟩,
   ⟨withChan 3 Chan.reset (beforeMark 0 0 false), _, _, item_at (by decide +kernel), by decide +kernel⟩⟩

theorem test_witness_EscalationsLatch :
    (∃ (inp : Samples) (s s1 : State), ItemOpen (persistEvent 0) inp s s1 ∧ s1.hasMark 0 inp.wm = true ∧
      s1.chans[0].st = .cycle ∧ s1.heldOn .cycle 0 = true ∧ s1.staging.actCh[0].ec ≠ 0 ∧
      s1.staging.actCh[0].ec.toNat ≤ (satInc s1.chans[0].persist).toNat) ∧
    (∃ (inp : Samples) (s s1 : State), ItemOpen (starveEvent 0) inp s s1 ∧ s1.hasMark 0 inp.wm = false ∧
      s1.chans[0].st = .cycle ∧ s1.chans[0].markSeen = false ∧ s1.chans[0].enteredCycle = false ∧
      s1.staging.actCh[0].mt ≠ 0 ∧ s1.staging.actCh[0].mt.toNat * 16 ≤ (satInc s1.chans[0].timer).toNat) :=
  ⟨⟨_, beforeMark 2 199 true, _, item_at (by decide +kernel), by decide +kernel⟩,
   ⟨_, beforeMark 2 319 true, _, item_at (by decide +kernel), by decide +kernel⟩⟩

/-- A tick past its channels in which every channel has had its mark, with a TABLE commit armed to CH3 and CHANNEL 2's
armed. -/
def marked : State :=
  { run with
    tick := some ⟨quiet, .keepMarks :: phase4Items ++ phase5Items⟩
    chans := Vector.replicate 4 { Chan.reset with markSeen := true }
    staging := { run.staging with armedTable := some 3, armedCh := 0x4 } }

theorem test_witness_ArmedCommitAppliesAtItsMark :
    (∃ (inp : Samples) (s s1 : State), ItemOpen (armedCommitEvent .table) inp s s1 ∧ s1.staging.armedTable = some 3 ∧
      s1.chans[3].markSeen = true) ∧
    (∃ (inp : Samples) (s s1 : State), ItemOpen (armedCommitEvent (.channel 2)) inp s s1 ∧
      s1.staging.armedCh.getLsbD 2 = true ∧ s1.chans[2].markSeen = true) :=
  ⟨⟨_, marked, _, item_at (by decide +kernel), by decide +kernel⟩,
   ⟨_, marked, _, item_at (by decide +kernel), by decide +kernel⟩⟩

/-- A scrubber about to read the entry at a position. -/
def scrubbing (p : Fin 22) (ref : Word) (cond : Bool) (s : State) : State :=
  { s with staging := { s.staging with tableValid := true }, scrub := ⟨p, 63, 0xFFFF, ref, cond⟩ }

/-- The accumulator after the read of a default entry. -/
def scrubWord : Word := crc16Word (crc16Word 0xFFFF 0x020F) 0x8004

/-- The scrubber's item is found about to read the entry at a position, with this reference CRC, this TBL condition, and CLK
unserved or not. -/
def scrubDueAt (p : Fin 22) (ref : Word) (cond clk : Bool) : Prop :=
  ∃ (inp : Samples) (s s1 : State), ItemOpen scrubReadEvent inp s s1 ∧ s1.staging.tableValid = true ∧
    s1.scrub = ⟨p, 63, 0xFFFF, ref, cond⟩ ∧ s1.unserved clkSrc = clk ∧ s1.staging.actTab[p].word0 = 0x020F ∧
    s1.staging.actTab[p].word1 = 0x8004

theorem test_witness_ScrubberReadsAndEndsItsPass :
    (scrubDueAt 20 0 false false ∧ (20 : Fin 22).val + 1 < 22) ∧
    (scrubDueAt 21 scrubWord false false ∧ scrubDueAt 21 scrubWord true false) ∧
    (scrubDueAt 21 0 false false ∧ scrubDueAt 21 0 false true ∧ scrubWord ≠ 0) :=
  ⟨⟨⟨_, scrubbing 20 0 false run, _, item_at (by decide +kernel), by decide +kernel⟩, by decide +kernel⟩,
   ⟨⟨_, scrubbing 21 scrubWord false run, _, item_at (by decide +kernel), by decide +kernel⟩,
    ⟨_, scrubbing 21 scrubWord true run, _, item_at (by decide +kernel), by decide +kernel⟩⟩,
   ⟨_, scrubbing 21 0 false run, _, item_at (by decide +kernel), by decide +kernel⟩,
   ⟨_, withPend clkSrc ⟨1, none⟩ (scrubbing 21 0 false run), _, item_at (by decide +kernel), by decide +kernel⟩,
   by decide +kernel⟩

/-- A clock monitor in a state, with hand-offs waiting. -/
def clocked (m : MonState) (n : Nat) (h : List HandOff) : State :=
  { run with clk := ⟨m, .backup, 0, n, h, m, false, false⟩ }

theorem test_witness_ClockMonitorTransitions :
    run.settle.clk.mon = .good ∧ (clocked .lost 0 []).settle.clk.mon = .lost ∧
    (clocked .recovering 4094 []).settle.clk.recovery < 4095 ∧
    4095 ≤ (clocked .recovering 4095 []).settle.clk.recovery ∧
    (clocked .recovering 4095 []).settle.clk.mon = .recovering := by decide +kernel

theorem test_witness_ClockHandOffsAct :
    (∃ (inp : Samples) (s s1 : State), ItemOpen clkRaiseEvent inp s s1 ∧ s1.clk.handOffs = [.raise] ∧
      s1.unserved tblSrc = false) ∧
    (∃ (inp : Samples) (s s1 : State), ItemOpen clkClearEvent inp s s1 ∧ s1.clk.handOffs = [.clear]) ∧
    (∃ (inp : Samples) (s s1 : State), ItemOpen clkRaiseEvent inp s s1 ∧ s1.clk.handOffs = [.raise] ∧
      s1.unserved tblSrc = true) :=
  ⟨⟨_, clocked .lost 0 [.raise], _, item_at (by decide +kernel), by decide +kernel⟩,
   ⟨_, clocked .good 0 [.clear], _, item_at (by decide +kernel), by decide +kernel⟩,
   ⟨_, withPend tblSrc ⟨1, none⟩ (clocked .lost 0 [.raise]), _, item_at (by decide +kernel), by decide +kernel⟩⟩

theorem test_witness_KeepaliveWindowsEnd :
    (∃ (inp : Samples) (s s1 : State), ItemOpen windowOpenEvent inp s s1 ∧ s1.wdg.st = .closed ∧
      s1.wdg.length.toNat * 1024 ≤ s1.wdg.timerNow) ∧
    (∃ (inp : Samples) (s s1 : State), ItemOpen lateViolationEvent inp s s1 ∧ s1.wdg.st = .opened ∧
      s1.wdg.length.toNat * 1024 ≤ s1.wdg.timerNow) ∧
    (∃ (inp : Samples) (s s1 : State), ItemOpen secondLapseEvent inp s s1 ∧ s1.wdg.st = .lapsed ∧
      s1.wdg.length.toNat * 1024 ≤ s1.wdg.timerNow) :=
  ⟨⟨_, armedWdg .closed 0 2047 2 none, _, item_at (by decide +kernel), by decide +kernel⟩,
   ⟨_, armedWdg .opened 1 1023 1 none, _, item_at (by decide +kernel), by decide +kernel⟩,
   ⟨_, armedWdg .lapsed 1 1023 1 (some ⟨.cycle, 0x3, 9⟩), _, item_at (by decide +kernel), by decide +kernel⟩⟩

/-- A state in which a PIN lasts. -/
def inPin : State := after .pinReset run

theorem test_witness_PowerAndPinResets : run.inReset = false ∧ inPin.inReset = true := by decide +kernel

/-- Channel 3's mark is due in neither tick where WM3 stands high without an edge. -/
def noEdge : State :=
  standing { quiet with wm := 8 } { marked with tick := none, time := { run.time with wmPrev := some 8 } }

theorem test_witness_NothingRunsInResetOrOutOfOrder :
    inPin.inReset = true ∧ eventOf (.mark 3) = some (markEvent 3) ∧ noEdge.meets none (markEvent 3) = none ∧
    noEdge.meets (some (noEdge.driven (markEvent 3))) (markEvent 3) = none ∧ ∃ t, exec (.mark 3) run = .next t :=
  ⟨by decide +kernel, rfl, by decide +kernel, by decide +kernel, _, rfl⟩

theorem test_witness_JudgedTransactionsWait :
    frameOf (.accept fr Quad.zero) = some (fr, actionBytes 5 1 Quad.zero) ∧ (Instr.accept fr Quad.zero).wf = true ∧
    run.inReset = false ∧ (∃ q, (run.transfer (nullBytes 5) []).link.flight = some q ∧ q.dead = false) ∧
    (∃ q, (resetting.transfer (nullBytes 5) [⟨1, .tick quiet⟩]).link.flight = some q ∧ q.dead = true) := by
  refine ⟨rfl, by decide +kernel, rfl, ⟨_, by rw [show nullBytes 5 = (5 : Byte) :: [crc8 [5]] from rfl, transfer_quiet _ _ _ rfl rfl],
    rfl⟩, ?_⟩
  have h : ((resetting.transfer (nullBytes 5) [⟨1, .tick quiet⟩]).link.flight.map (·.dead)) = some true := by
    decide +kernel
  exact Option.map_eq_some_iff.mp h

/-- A state that remembers an ACCEPT with tag 5. -/
def remembering : State :=
  { run with link := { run.link with replay := some ⟨5, 1, Quad.zero, 0x01, Quad.zero⟩, chain := true } }

theorem test_witness_ReplaysAreNotExecuted :
    frameOf (.accept fr Quad.zero) = some (fr, actionBytes fr.tag 1 Quad.zero) ∧
    Taken fr (actionBytes fr.tag 1 Quad.zero) remembering (up 7 remembering) ∧
    (up 7 remembering).link.replayOf 5 1 Quad.zero = some ⟨5, 1, Quad.zero, 0x01, Quad.zero⟩ ∧ fr.tag ≠ 0 :=
  ⟨rfl, taken_up (bytes := actionBytes fr.tag 1 Quad.zero) (by decide +kernel) rfl rfl rfl rfl, rfl, by decide +kernel⟩

theorem test_witness_NullFetchesTheResultAgain :
    run.inReset = false ∧ run.settle.link.flight = none ∧ fr.during = [] := ⟨rfl, rfl, rfl⟩

theorem test_witness_FrameErrorsAreJudgedAndCounted :
    (0 < [(0x05 : Byte)].length ∧ [(0x05 : Byte)].length < expectedLength [0x05]) ∧
    expectedLength ([0x05] ++ (0xFF : Byte) :: []) = [(0x05 : Byte)].length + 1 ∧
    expectedLength ([0x45, 0x00, 0x10] ++ (0x00 : Byte) :: [0x00]) = [(0x45 : Byte), 0x00, 0x10].length + 1 ∧
    (∃ q s1, (frameCheck [0x05, 0x00]).isSome = true ∧ fr.fill = [] ∧ Lands fr [0x05, 0x00] q run s1) :=
  ⟨by decide +kernel, by decide +kernel, by decide +kernel, _, _, by decide +kernel, rfl, Lands.quiet 0x05 [0x00] rfl rfl rfl rfl rfl rfl (by decide +kernel)⟩

/-- A READ in flight, its snapshot of CLKSTAT taken. -/
def snapped : State := after (.readSnapshot fr ⟨0x02, 1⟩) run

/-- A READ of CLKSTAT with this much fill and a tick with this many bytes clocked. -/
def slow (fill n : Nat) : Frame := ⟨5, List.replicate fill 0, [⟨n, .tick quiet⟩], some quiet⟩

theorem test_witness_ReadsAreSnapshots :
    (run.inReset = false ∧ run.settle.link.flight = none ∧ fr.during = [] ∧
      rangeCheck 0x00 16 = some (.badAddress, ⟨0x0C, 16, 0, 0⟩) ∧ rangeCheck 0x00 12 = none ∧
      rangeCheck 0xFB 1 = none ∧ rangeCheck 0x10 16 = none ∧ rangeCheck 0x00 0 = some (.badKind, Quad.zero)) ∧
    (exec (.readSnapshot fr ⟨0x02, 1⟩) run = .next snapped ∧
      ∃ q s1, Lands fr (readBytes fr.tag 0x02 1) q snapped s1) ∧
    (∃ q s1, Lands fr (readBytes fr.tag 0x02 1) q run s1) ∧
    (∃ q s1, Lands (slow 0 3) (readBytes (slow 0 3).tag 0x02 1) q run s1) ∧
    (∃ q s1, Lands (slow 9 4) (readBytes (slow 9 4).tag 0x02 1) q run s1) ∧
    (∃ q s1, Lands (slow 9 8) (readBytes (slow 9 8).tag 0x02 1) q run s1) ∧
    (∃ q s1, Lands (fr.tickAfter 4 (some quiet)) (readBytes fr.tag 0x02 1) q run s1) ∧
    (∃ q s1, Lands fr [0x45, 0x00, 0x01, 0xFF] q run s1) ∧
    (run.settle.link.waiting = [] ∧ headerKind [0x45, 0x00, 0x01, 0xFF] = 1 ∧ rangeCheck 0x00 1 = none) :=
  ⟨by decide +kernel, ⟨rfl, lands_at (by decide +kernel)⟩, lands_at (by decide +kernel), lands_at (by decide +kernel),
   lands_at (by decide +kernel), lands_at (by decide +kernel), lands_at (by decide +kernel), lands_at (by decide +kernel),
   rfl, by decide +kernel, by decide +kernel⟩

theorem test_witness_WritesAreAllOrNothing :
    Taken fr (writeBytes fr.tag 0x07 2 [0, 0x0102]) run (up 8 run) ∧
    Taken fr (writeBytes fr.tag 0x60 2 [0x0201, 0x8006]) run (up 8 run) ∧
    [(0 : Word), 0x0102].length = writeDataLength 2 ∧
    ((up 8 run).endConfirm.breakChain.writeCheck 0x07 2 [0, 0x0102]).isSome = true ∧
    (up 8 run).endConfirm.breakChain.writeCheck 0x60 2 [0x0201, 0x8006] = none :=
  ⟨taken_up (bytes := writeBytes fr.tag 0x07 2 [0, 0x0102]) (by decide +kernel) rfl rfl rfl rfl,
   taken_up (bytes := writeBytes fr.tag 0x60 2 [0x0201, 0x8006]) (by decide +kernel) rfl rfl rfl rfl, by decide +kernel, by decide +kernel,
   by decide +kernel⟩

/-- A state with LOCKED set. -/
def lockedState : State := run.setLocked true

theorem test_witness_LineModeWrites :
    TakenWord fr (lineModeAddr 15) 1 run (up 6 run) ∧ TakenWord fr (lineModeAddr 0) 0 lockedState (up 6 lockedState) ∧
    (up 6 lockedState).staging.locked = true ∧ (up 6 run).staging.locked = false ∧ (up 6 run).lines[15].cond = .idle ∧
    (∃ s, TakenWord fr (lineModeAddr 0) 0 s (up 6 s) ∧ (up 6 s).staging.locked = false ∧
      (up 6 s).lines[0].cond = .qualifying 1 3) ∧
    (∃ s, TakenWord fr (lineModeAddr 0) 0 s (up 6 s) ∧ (up 6 s).staging.locked = false ∧
      (up 6 s).lines[0].cond.isActive = true ∧ (up 6 s).lines[0].contrib = some ⟨.cycle, 1, 5⟩) :=
  ⟨word_up rfl rfl rfl rfl, word_up rfl rfl rfl rfl, rfl, rfl, rfl,
   ⟨withLine 0 fin7 (.qualifying 1 3) none run, word_up rfl rfl rfl rfl, rfl, rfl⟩,
   ⟨withLine 0 fin7 .asserted (some ⟨.cycle, 1, 5⟩) run, word_up rfl rfl rfl rfl, rfl, rfl, rfl⟩⟩

theorem test_witness_ShadowTableWrites :
    (TakenWord fr 0x8B 1 run (up 6 run) ∧ (up 6 run).staging.locked = false ∧ (up 6 run).staging.armedTable = none) ∧
    (TakenWord fr 0x8B 1 lockedState (up 6 lockedState) ∧ (up 6 lockedState).staging.locked = true) ∧
    (∃ s, TakenWord fr 0x60 1 s (up 6 s) ∧ (up 6 s).staging.locked = false ∧ (up 6 s).staging.armedTable = some 3) ∧
    (0x8B : Byte) = BitVec.ofNat 8 (0x60 + 2 * (21 : Source).val + if true then 1 else 0) :=
  ⟨⟨word_up rfl rfl rfl rfl, rfl, rfl⟩, ⟨word_up rfl rfl rfl rfl, rfl⟩,
   ⟨{ run with staging := { run.staging with armedTable := some 3 } }, word_up rfl rfl rfl rfl, rfl, rfl⟩, rfl⟩

theorem test_witness_ConfigurationWrites :
    TakenWord fr 0xE8 1 run (up 6 run) ∧ TakenWord fr 0x5F 1 run (up 6 run) ∧ TakenWord fr 0x08 1 run (up 6 run) ∧
    TakenWord fr 0xFB 0x0020 run (up 6 run) ∧ (0x0020 : Word).toNat ≤ 32 ∧
    ((32 : Fin 33).val = (0x0020 : Word).toNat) ∧ (up 6 run).inHold = false ∧ (up 6 State.reset).inHold = true ∧
    (up 6 run).arb.stack = [] :=
  ⟨word_up rfl rfl rfl rfl, word_up rfl rfl rfl rfl, word_up rfl rfl rfl rfl, word_up rfl rfl rfl rfl, by decide +kernel,
   by decide +kernel, rfl, rfl, rfl⟩

theorem test_witness_AcceptAndCancelHandOver :
    (∃ s s1 : State, TakenAction fr 1 Quad.zero s s1 ∧ s1.winner = none) ∧
    (∃ s s1 : State, TakenAction fr 1 Quad.zero s s1 ∧ s1.winner = some 4 ∧ s1.arb.pend[4] = some ⟨2, some 812⟩ ∧
      s1.arb.stack.length < 12) ∧
    (∃ s s1 : State, TakenAction fr 1 Quad.zero s s1 ∧ s1.winner = some 21 ∧ s1.arb.pend[21] = some ⟨1, none⟩ ∧
      12 ≤ s1.arb.stack.length) ∧
    (∃ s s1 : State, TakenAction fr 5 (args 22 0 0 0) s s1 ∧ s1.arb.pend[21] = none) ∧
    (∃ s s1 : State, TakenAction fr 5 (args 21 0 0 0) s s1 ∧ s1.arb.pend[21] = some ⟨1, none⟩) :=
  ⟨⟨run, _, action_up rfl rfl rfl rfl rfl, by decide +kernel⟩,
   ⟨withPend 4 ⟨2, some 812⟩ run, _, action_up rfl rfl rfl rfl rfl, by decide +kernel, by decide +kernel, by decide +kernel⟩,
   ⟨withPend 21 ⟨1, none⟩ { run with arb := { run.arb with stack := List.replicate 12 ⟨0, 2, none⟩ } }, _,
     action_up rfl rfl rfl rfl rfl, by decide +kernel, by decide +kernel, by decide +kernel⟩,
   ⟨run, _, action_up rfl rfl rfl rfl rfl, by decide +kernel⟩,
   ⟨withPend 21 ⟨1, none⟩ run, _, action_up rfl rfl rfl rfl rfl, by decide +kernel⟩⟩

theorem test_witness_ServiceActions :
    (∃ s s1 : State, TakenAction fr 2 (args 21 0 0 0) s s1 ∧ s1.arb.stack = []) ∧
    (∃ s s1 : State, TakenAction fr 2 (args 20 0 0 0) s s1 ∧ s1.arb.stack = ⟨5, 20, some 404⟩ :: stack3.tail) ∧
    (∃ s s1 : State, TakenAction fr 3 (args 7 0 0 0) s s1 ∧ 8 ≤ s1.arb.sl.val) ∧
    (∃ s s1 : State, TakenAction fr 3 (args 7 0 0 0) s s1 ∧ s1.arb.nestOff = true ∧ s1.arb.stack ≠ []) ∧
    (∃ s s1 : State, TakenAction fr 3 (args 7 0 0 0) s s1 ∧ s1.arb.sl.val < 8 ∧ s1.arb.nestOff = false) ∧
    (∃ s s1 : State, TakenAction fr 4 (args 0 1 0 0) s s1) :=
  ⟨⟨run, _, action_up rfl rfl rfl rfl rfl, rfl⟩,
   ⟨{ run with arb := { run.arb with sl := 10, stack := stack3 } }, _, action_up rfl rfl rfl rfl rfl, rfl⟩,
   ⟨{ run with arb := { run.arb with sl := 8, stack := stack3 } }, _, action_up rfl rfl rfl rfl rfl, by decide +kernel⟩,
   ⟨{ run with arb := { run.arb with sl := 7, nestOff := true, stack := stack3 } }, _, action_up rfl rfl rfl rfl rfl, rfl,
     by decide +kernel⟩,
   ⟨{ run with arb := { run.arb with sl := 7 } }, _, action_up rfl rfl rfl rfl rfl, by decide +kernel, rfl⟩,
   ⟨run, _, action_up rfl rfl rfl rfl rfl⟩⟩

/-- The default channel block's CRC as the argument bytes of COMMIT. -/
def commitArgs0 (timing : Byte) : Quad := args 1 timing (hiByte (crc16 [0x8154, 0, 0])) (loByte (crc16 [0x8154, 0, 0]))

theorem test_witness_CommitChecksThenApplies :
    commitArgs (args 5 0 0 0) = none ∧ commitArgs (args 4 0x12 0 0) = none ∧
    commitArgs (args 0 0x13 0 0) = some (.table, some 3) ∧ commitArgs (commitArgs0 0) = some (.channel 0, none) ∧
    commitArgs (commitArgs0 0x10) = some (.channel 0, some 0) ∧
    TakenAction fr 6 (commitArgs0 0) run (up 7 run) ∧ (up 7 run).staging.armed (.channel 0) = none ∧
    (up 7 run).shadowCrc (.channel 0) = wordOf (commitArgs0 0).b2 (commitArgs0 0).b3 ∧
    (up 7 run).shadowCrc (.channel 0) ≠ wordOf 0 0 ∧
    (∃ s, TakenAction fr 6 (commitArgs0 0) s (up 7 s) ∧ (up 7 s).staging.armed (.channel 0) = some 0) :=
  ⟨by decide +kernel, by decide +kernel, by decide +kernel, by decide +kernel, by decide +kernel, action_up rfl rfl rfl rfl rfl, by decide +kernel,
   by decide +kernel, by decide +kernel,
   ⟨{ run with staging := { run.staging with armedCh := 1 } }, action_up rfl rfl rfl rfl rfl, by decide +kernel⟩⟩

theorem test_witness_AbortCommitDisarms :
    (∃ s s1 : State, TakenAction fr 7 (args 5 0 0 0) s s1) ∧
    (∃ s s1 : State, TakenAction fr 7 (args 4 0 0 0) s s1 ∧ (args 4 0 0 0).b0.toNat = scopeCode (.channel 3) ∧
      s1.staging.armed (.channel 3) = none) ∧
    (∃ s s1 : State, TakenAction fr 7 (args 0 0 0 0) s s1 ∧ s1.staging.armed .table = some 3) :=
  ⟨⟨run, _, action_up rfl rfl rfl rfl rfl⟩, ⟨run, _, action_up rfl rfl rfl rfl rfl, by decide +kernel, by decide +kernel⟩,
   ⟨{ run with staging := { run.staging with armedTable := some 3 } }, _, action_up rfl rfl rfl rfl rfl, rfl⟩⟩

/-- Every channel LATCHED, outside Safe-Hold. -/
def latched : State := { run with chans := Vector.replicate 4 Chan.reset }

theorem test_witness_ClearLatchIsAllOrNothing :
    (∃ s s1 : State, TakenAction fr 8 (args 16 0 0 0) s s1) ∧ (∃ s s1 : State, TakenAction fr 8 Quad.zero s s1) ∧
    (∃ s s1 : State, TakenAction fr 8 (args 15 0 0 0) s s1 ∧ s1.inHold = false ∧
      ∀ k : Channel, s1.chans[k].st = .latched ∧ s1.latchPresent k = false) ∧
    (∃ s s1 : State, TakenAction fr 8 (args 8 0 0 0) s s1 ∧ s1.chans[3].st ≠ .latched) ∧
    (∃ s s1 : State, TakenAction fr 8 (args 8 0 0 0) s s1 ∧ s1.inHold = true) ∧
    (∃ s s1 : State, TakenAction fr 8 (args 8 0 0 0) s s1 ∧ s1.latchPresent 3 = true) :=
  ⟨⟨run, _, action_up rfl rfl rfl rfl rfl⟩, ⟨run, _, action_up rfl rfl rfl rfl rfl⟩,
   ⟨latched, _, action_up rfl rfl rfl rfl rfl, rfl, by decide +kernel⟩, ⟨run, _, action_up rfl rfl rfl rfl rfl, by decide +kernel⟩,
   ⟨State.reset, _, action_up rfl rfl rfl rfl rfl, rfl⟩,
   ⟨withLine 9 ⟨true, false, false, 0, 0⟩ .asserted (some ⟨.latch, 0xC, 4⟩) latched, _, action_up rfl rfl rfl rfl rfl, by decide +kernel⟩⟩

theorem test_witness_ForceTripActsOnItsMask :
    (∃ s s1 : State, TakenAction fr 9 (args 16 1 0 0) s s1) ∧ (∃ s s1 : State, TakenAction fr 9 (args 1 3 0 0) s s1) ∧
    (∃ s s1 : State, TakenAction fr 9 (args 0 2 0 0) s s1) ∧ (∃ s s1 : State, TakenAction fr 9 (args 15 1 0 0) s s1) :=
  ⟨⟨run, _, action_up rfl rfl rfl rfl rfl⟩, ⟨run, _, action_up rfl rfl rfl rfl rfl⟩, ⟨run, _, action_up rfl rfl rfl rfl rfl⟩,
   ⟨run, _, action_up rfl rfl rfl rfl rfl⟩⟩

theorem test_witness_ForceSafeAddsForced : ∃ s s1 : State, TakenAction fr 10 Quad.zero s s1 :=
  ⟨run, _, action_up rfl rfl rfl rfl rfl⟩

/-- A state with a confirmation of an action code armed, with challenge 0x4A. -/
def confirmed (code : Byte) (s : State) : State := { s with link := { s.link with confirm := some ⟨code, 0x4A⟩ } }

theorem test_witness_ExitSafeIsInterlocked :
    (∃ s s1 : State, TakenAction fr 11 (args 1 0 0 0x4B) s s1 ∧ s1.link.confirm ≠ some ⟨11, 0x4B⟩) ∧
    (∃ s s1 : State, TakenAction fr 11 (args 64 0 0 0x4A) s s1 ∧ s1.link.confirm = some ⟨11, 0x4A⟩) ∧
    (∃ s s1 : State, TakenAction fr 11 (args 63 0 0 0x4A) s s1 ∧ s1.link.confirm = some ⟨11, 0x4A⟩ ∧ s1.causes = 0) ∧
    (∃ s s1 : State, TakenAction fr 11 (args 63 0 0 0x4A) s s1 ∧ s1.link.confirm = some ⟨11, 0x4A⟩ ∧ s1.causes ≠ 0 ∧
      (63 : Byte) ≠ s1.causes.setWidth 8) ∧
    (∃ s s1 : State, TakenAction fr 11 (args 1 0 0 0x4A) s s1 ∧ s1.link.confirm = some ⟨11, 0x4A⟩ ∧ s1.causes = 1 ∧
      s1.exitFailing ≠ 0) ∧
    (∃ s s1 : State, TakenAction fr 11 (args 1 0 0 0x4A) s s1 ∧ s1.link.confirm = some ⟨11, 0x4A⟩ ∧ s1.causes = 1 ∧
      s1.exitFailing = 0) :=
  ⟨⟨confirmed 11 State.reset, _, action_up rfl rfl rfl rfl rfl, by decide +kernel⟩,
   ⟨confirmed 11 State.reset, _, action_up rfl rfl rfl rfl rfl, rfl⟩,
   ⟨confirmed 11 run, _, action_up rfl rfl rfl rfl rfl, rfl, rfl⟩,
   ⟨confirmed 11 State.reset, _, action_up rfl rfl rfl rfl rfl, rfl, by decide +kernel, by decide +kernel⟩,
   ⟨confirmed 11 State.reset, _, action_up rfl rfl rfl rfl rfl, rfl, rfl, by decide +kernel⟩,
   ⟨confirmed 11 { State.reset with staging := { State.reset.staging with tableValid := true } }, _,
     action_up rfl rfl rfl rfl rfl, rfl, rfl, by decide +kernel⟩⟩

theorem test_witness_JournalPopNamesTheHead :
    (∃ s s1 : State, TakenAction fr 12 Quad.zero s s1 ∧ s1.journal.queue = []) ∧
    (∃ s s1 : State, ∃ r rest, TakenAction fr 12 (args 0 1 0 0) s s1 ∧ s1.journal.queue = r :: rest ∧
      r.seq ≠ wordOf 0 1) ∧
    (∃ s s1 : State, ∃ r rest, TakenAction fr 12 (args 0 0 0 0) s s1 ∧ s1.journal.queue = r :: rest ∧
      r.seq = wordOf 0 0) :=
  ⟨⟨run, _, action_up rfl rfl rfl rfl rfl, rfl⟩,
   ⟨{ run with journal := filled 1 0 }, _, _, _, action_up rfl rfl rfl rfl rfl, rfl, by decide +kernel⟩,
   ⟨{ run with journal := filled 1 0 }, _, _, _, action_up rfl rfl rfl rfl rfl, rfl, by decide +kernel⟩⟩

theorem test_witness_InsertionPolicy :
    (filled 2 25).queue.length < 28 ∧ 28 ≤ (filled 2 26).queue.length ∧ (filled 5 26).queue.length < 32 ∧
    32 ≤ (filled 32 0).queue.length ∧ (∀ x ∈ (filled 32 0).queue, x.body.isProtected = true) ∧
    ((plain 0).body.isProtected = false ∧ (prot 0).body.isProtected = true) ∧
    (∃ before r after, (filled 31 1).queue = before ++ r :: after ∧ (∀ x ∈ before, x.body.isProtected = true) ∧
      r.body.isProtected = false ∧ 32 ≤ (filled 31 1).queue.length) :=
  ⟨by decide +kernel, by decide +kernel, by decide +kernel, by decide +kernel, by decide +kernel, by decide +kernel,
   (filled 31 0).queue, plain 31, [], by decide +kernel, by decide +kernel, by decide +kernel, by decide +kernel⟩

theorem test_witness_KeepaliveByState :
    (∃ s s1 : State, TakenAction fr 13 Quad.zero s s1 ∧ s1.wdg.st = .off) ∧
    (∃ s s1 : State, TakenAction fr 13 Quad.zero s s1 ∧ s1.wdg.st = .closed) ∧
    (∃ s s1 : State, TakenAction fr 13 Quad.zero s s1 ∧ s1.wdg.st = .opened ∧ (0 : Byte) ≠ s1.wdg.token) ∧
    (∃ s s1 : State, TakenAction fr 13 Quad.zero s s1 ∧ s1.wdg.st = .opened ∧ (0 : Byte) = s1.wdg.token) ∧
    (∃ s s1 : State, TakenAction fr 13 Quad.zero s s1 ∧ s1.wdg.st = .lapsed ∧ (0 : Byte) ≠ s1.wdg.token) ∧
    (∃ s s1 : State, TakenAction fr 13 (args 255 0 0 0) s s1 ∧ s1.wdg.st = .lapsed ∧ 255 = s1.wdg.token ∧
      s1.wdg.lnk = some ⟨.cycle, 0x3, 9⟩) ∧
    (∃ s s1 : State, TakenAction fr 14 Quad.zero s s1 ∧ s1.wdg.st = .off) ∧
    (∃ s s1 : State, TakenAction fr 14 Quad.zero s s1 ∧ s1.wdg.st ≠ .off) :=
  ⟨⟨run, _, action_up rfl rfl rfl rfl rfl, rfl⟩, ⟨armedWdg .closed 0 0 2 none, _, action_up rfl rfl rfl rfl rfl, rfl⟩,
   ⟨armedWdg .opened 1 0 1 none, _, action_up rfl rfl rfl rfl rfl, rfl, by decide +kernel⟩,
   ⟨armedWdg .opened 0 0 1 none, _, action_up rfl rfl rfl rfl rfl, rfl, rfl⟩,
   ⟨armedWdg .lapsed 1 0 1 (some ⟨.cycle, 0x3, 9⟩), _, action_up rfl rfl rfl rfl rfl, rfl, by decide +kernel⟩,
   ⟨armedWdg .lapsed 255 0 1 (some ⟨.cycle, 0x3, 9⟩), _, action_up rfl rfl rfl rfl rfl, rfl, rfl, rfl⟩,
   ⟨run, _, action_up rfl rfl rfl rfl rfl, rfl⟩, ⟨armedWdg .closed 0 0 2 none, _, action_up rfl rfl rfl rfl rfl, by decide +kernel⟩⟩

theorem test_witness_LockUnlockAndConfirm :
    (∃ s s1 : State, TakenAction fr 15 Quad.zero s s1) ∧
    (∃ s s1 : State, TakenAction fr 16 (args 0 0 0 0x4A) s s1 ∧ s1.link.confirm = some ⟨16, 0x4A⟩) ∧
    (∃ s s1 : State, TakenAction fr 16 (args 0 0 0 0x4A) s s1 ∧ s1.link.confirm ≠ some ⟨16, 0x4A⟩) ∧
    (∃ s s1 : State, TakenAction fr 17 (args 11 0 0 0) s s1) ∧ (∃ s s1 : State, TakenAction fr 17 (args 19 0 0 0) s s1) ∧
    (∃ s s1 : State, TakenAction fr 17 (args 12 0 0 0) s s1) ∧ (∃ s s1 : State, TakenAction fr 17 (args 20 0 0 0) s s1) :=
  ⟨⟨run, _, action_up rfl rfl rfl rfl rfl⟩, ⟨confirmed 16 lockedState, _, action_up rfl rfl rfl rfl rfl, rfl⟩,
   ⟨confirmed 11 lockedState, _, action_up rfl rfl rfl rfl rfl, by decide +kernel⟩, ⟨run, _, action_up rfl rfl rfl rfl rfl⟩,
   ⟨run, _, action_up rfl rfl rfl rfl rfl⟩, ⟨run, _, action_up rfl rfl rfl rfl rfl⟩, ⟨run, _, action_up rfl rfl rfl rfl rfl⟩⟩

theorem test_witness_ResetDeviceResets :
    (∃ s s1 : State, TakenAction fr 18 (args 0 0 0 0x4A) s s1 ∧ s1.link.confirm = some ⟨18, 0x4A⟩) ∧
    (∃ s s1 : State, TakenAction fr 18 (args 0 0 0 0x4A) s s1 ∧ s1.link.confirm ≠ some ⟨18, 0x4A⟩) :=
  ⟨⟨confirmed 18 run, _, action_up rfl rfl rfl rfl rfl, rfl⟩, ⟨run, _, action_up rfl rfl rfl rfl rfl, by decide +kernel⟩⟩

theorem test_witness_SelftestComplementsTheReference :
    (∃ s s1 : State, TakenAction fr 19 (args 0 0 0 0x4A) s s1 ∧ s1.link.confirm ≠ some ⟨19, 0x4A⟩) ∧
    (∃ s s1 : State, TakenAction fr 19 (args 0 0 0 0x4A) s s1 ∧ s1.link.confirm = some ⟨19, 0x4A⟩ ∧
      s1.staging.tableValid = false) ∧
    (∃ s s1 : State, TakenAction fr 19 (args 0 0 0 0x4A) s s1 ∧ s1.link.confirm = some ⟨19, 0x4A⟩ ∧
      s1.staging.tableValid = true) :=
  ⟨⟨run, _, action_up rfl rfl rfl rfl rfl, by decide +kernel⟩, ⟨confirmed 19 run, _, action_up rfl rfl rfl rfl rfl, rfl, rfl⟩,
   ⟨confirmed 19 (scrubbing 21 0 false run), _, action_up rfl rfl rfl rfl rfl, rfl, rfl⟩⟩

theorem test_witness_ClearCountersClears : ∃ s s1 : State, TakenAction fr 20 Quad.zero s s1 :=
  ⟨run, _, action_up rfl rfl rfl rfl rfl⟩

theorem test_witness_ClearCauseClearsTheStickyBits :
    (∃ s s1 : State, TakenAction fr 21 Quad.zero s s1) ∧
    (∃ s t : State, step s = .next t ∧ s.rstcause.sticky &&& ResetKind.pin.stickyBit = 0 ∧
      t.rstcause.sticky &&& ResetKind.pin.stickyBit ≠ 0) :=
  ⟨⟨run, _, action_up rfl rfl rfl rfl rfl⟩, ⟨{ run with pending := [.pinReset] }, _, rfl, by decide +kernel, by decide +kernel⟩⟩

theorem test_witness_UnknownCodesAreBadKind :
    (∃ s s1 : State, TakenAction fr 0 Quad.zero s s1) ∧
    (∃ s s1 : State, TakenAction fr 22 Quad.zero s s1 ∧ 21 < (22 : Byte).toNat) :=
  ⟨⟨run, _, action_up rfl rfl rfl rfl rfl⟩, ⟨run, _, action_up rfl rfl rfl rfl rfl, by decide +kernel⟩⟩

theorem test_witness_ClkstatLayout :
    run.clk.recovery ≤ 4096 ∧ (clocked .recovering 4096 []).clk.recovery ≤ 4096 ∧ run.inReset = false ∧
    run.settle.link.flight = none := by decide +kernel

theorem test_witness_WrittenWordsReadBack :
    (Reg.jrnlCfg.writable = true ∧ Reg.jrnlCfg.rangeBad 32 = false ∧ (32 : Word).toNat ≤ 32) ∧
    ((Reg.shch 3 0).writable = true ∧ (Reg.shch 3 0).rangeBad 0x8154 = false) ∧
    ((Reg.shtab 21 true).writable = true ∧ (Reg.shtab 21 true).rangeBad 0xFFFF = false) := by decide +kernel

/-- A record at the head of the journal, an entry on the stack and a pending source, for the words that show them. -/
def showing : State :=
  withPend 3 ⟨2, some 812⟩ { run with
    journal := { run.journal with queue := [⟨7, 9, ⟨.safeEntry .table false, none, 0, none, 0x12345678⟩⟩] }
    arb := { run.arb with stack := [⟨3, 5, some 0x0102⟩] } }

/-- The words of Tables 7-4, 7-5 and 8-2, by hand. -/
theorem test_status_words :
    (∀ i : Fin 6, (Reg.jrnlHead i).read showing = #v[7, 0x5FC0, 0x0900, 0x1234, 0x5678, 0x0004][i]) ∧
    (Reg.pending false).read showing = 0x0008 ∧ (Reg.pending true).read showing = 0x8300 ∧
    (∀ i : Fin 3, (Reg.stackview i).read showing = #v[0x8501, 0x0003, 0x0102][i]) := by decide +kernel

theorem test_witness_StatusWordLayouts :
    (∃ (s : State) (r : Rec) (rest : List Rec), s.journal.queue = r :: rest) ∧
    (∃ (s : State) (e : StackEntry) (rest : List StackEntry), s.arb.stack = e :: rest ∧ s.arb.stack.length ≤ 12) ∧
    run.journal.queue = [] ∧ run.arb.stack = [] :=
  ⟨⟨showing, _, _, rfl⟩, ⟨showing, _, _, rfl, by decide⟩, rfl, rfl⟩

end Sys2Proof.Tests
end

section
/-! SUPPORT. The proofs of the statements on RSTCAUSE and the counters: CLEAR_COUNTERS and CLEAR_CAUSE as actions taken in
phase 1, and that a step sets a sticky bit only by a reset of its kind, which is then the last one. One step can hold many
ticks, so the key fact is that it never performs both a CMD and a PROT: after a PROT no confirmation is armed and no
transaction waits, so that the step has no RESET_DEVICE to take, and after a CMD nothing that raises PROT is left. -/

namespace Sys2Proof.Machine

/-! ### The two actions -/

/-- CLEAR_COUNTERS is an ACTION frame with code 20 (Table 10-5). -/
theorem exec_clearCounters (f : Frame) (args : Quad) (s : State) :
    exec (.clearCounters f args) s = .next (s.action f 20 args) := by rfl

/-- CLEAR_CAUSE is an ACTION frame with code 21 (Table 10-5). -/
theorem exec_clearCause (f : Frame) (args : Quad) (s : State) :
    exec (.clearCause f args) s = .next (s.action f 21 args) := by rfl

/-- Settles O55: the answer is that of the action's phase 1 step (R176), and a link error counted on it makes ERRCNT 1. -/
theorem clearCountersClears : Obligations.ClearCountersClears := by
  intro f args s s1 h
  refine ⟨_, ?_, rfl, ?_⟩
  · rw [exec_clearCounters, State.action_taken h]
    rfl
  · rfl

/-- The answer of CLEAR_CAUSE in the state its phase 1 step finds (R174). -/
theorem exec_clearCause_taken {f : Frame} {args : Quad} {s s1 : State} (h : TakenAction f 21 args s s1) :
    exec (.clearCause f args) s = .next (({ s1.endConfirm with
      rstcause := ⟨s1.rstcause.last, 0⟩ } : State).answered f 21 args
        (if s1.rstcause.sticky = 0 then .nothing else .ok) ⟨s1.rstcause.sticky.setWidth 8, 0, 0, 0⟩) := by
  rw [exec_clearCause, State.action_taken h]
  rfl

/-! ### How a part of a tick ends -/

theorem Progress.Holds.mono {M P N Q : State → Prop} {p : Progress} (h : p.Holds M P) (w : ∀ s, M s → N s)
    (v : ∀ s, P s → Q s) : p.Holds N Q := by
  cases h with
  | goes h => exact .goes (w _ h)
  | abandoned h => exact .abandoned (v _ h)

/-! ### Reset kinds and new sticky bits -/

/-- Kinds that share their sticky bit have the same code (R173). -/
theorem ResetKind.code_eq_of_stickyBit {a b : ResetKind} (h : a.stickyBit &&& b.stickyBit ≠ 0) : a.code = b.code := by
  revert h
  cases a <;> cases b <;> simp [ResetKind.stickyBit, ResetKind.code]

/-- No sticky bit is set that `b` has not set. -/
def NoNewBit (b : BitVec 4) (s : State) : Prop :=
  ∀ kind : ResetKind, b &&& kind.stickyBit = 0 → s.rstcause.sticky &&& kind.stickyBit = 0

/-- A sticky bit that `b` has not set belongs to the kind of the last reset. -/
def NewBitIsLast (b : BitVec 4) (s : State) : Prop :=
  ∀ kind : ResetKind, b &&& kind.stickyBit = 0 → s.rstcause.sticky &&& kind.stickyBit ≠ 0 →
    s.rstcause.last.code = kind.code

theorem NoNewBit.newBitIsLast {b : BitVec 4} {s : State} (h : NoNewBit b s) : NewBitIsLast b s :=
  fun kind h0 h1 => absurd (h kind h0) h1

theorem NoNewBit.congr {b : BitVec 4} {s t : State} (h : NoNewBit b s) (e : t.rstcause = s.rstcause) : NoNewBit b t := by
  unfold NoNewBit; rw [e]; exact h

theorem NewBitIsLast.congr {b : BitVec 4} {s t : State} (h : NewBitIsLast b s) (e : t.rstcause = s.rstcause) :
    NewBitIsLast b t := by
  unfold NewBitIsLast; rw [e]; exact h

/-- A reset that adds its own sticky bit, where the last reset was of its kind if a bit was new before. -/
theorem NewBitIsLast.of_reset {b : BitVec 4} {s t : State} {kind : ResetKind}
    (e : t.rstcause = ⟨kind, s.rstcause.sticky ||| kind.stickyBit⟩) (h : NewBitIsLast b s)
    (hk : NoNewBit b s ∨ s.rstcause.last.code = kind.code) : NewBitIsLast b t := by
  intro k h0 h1
  rw [e] at h1 ⊢
  by_cases hs : s.rstcause.sticky &&& k.stickyBit = 0
  · refine ResetKind.code_eq_of_stickyBit fun hz => h1 ?_
    rw [BitVec.and_or_distrib_right, hs, hz, BitVec.or_self]
  · obtain hn | hc := hk
    · exact absurd (hn k h0) hs
    · exact hc.symm.trans (h k h0 hs)

/-- `t` has the RSTCAUSE of `s`, or has lost its sticky bits: what an action that performs no reset does (R174). -/
def LosesBits (s t : State) : Prop := t.rstcause = s.rstcause ∨ t.rstcause = ⟨s.rstcause.last, 0⟩

theorem NoNewBit.loses {b : BitVec 4} {s t : State} (h : NoNewBit b s) (e : LosesBits s t) : NoNewBit b t := by
  obtain e | e := e
  · exact h.congr e
  · intro kind _
    rw [e]
    exact BitVec.zero_and

theorem NewBitIsLast.loses {b : BitVec 4} {s t : State} (h : NewBitIsLast b s) (e : LosesBits s t) :
    NewBitIsLast b t := by
  obtain e | e := e
  · exact h.congr e
  · intro kind _ h1
    rw [e] at h1
    exact absurd BitVec.zero_and h1

/-! ### The link without anything to take, and a state without anything that raises PROT -/

/-- No confirmation is armed and no transaction waits. -/
def Link.Deaf (l : Link) : Prop := l.confirm = none ∧ l.waiting = []

theorem Link.reset_deaf (l : Link) (kind : ResetKind) : (l.reset kind).Deaf := ⟨rfl, rfl⟩

/-- Nothing raises PROT and nothing can come to raise it without the host: the scrubber stands still and no commit will start
it (R54, R47), the supervisor is OFF (R154), and a raise of CLK meets no TBL (R147). -/
structure Defused (s : State) : Prop where
  table : s.staging.tableValid = false
  unarmed : s.staging.armedTable = none
  off : s.wdg.st = .off
  served : s.unserved tblSrc = false

section

variable (s : State)

/-! ### What leaves TBL unserved or served as it was -/

theorem State.unserved_congr {s t : State} (src : Source) (hp : t.arb.pend[src.val] = s.arb.pend[src.val])
    (hs : t.arb.stack = s.arb.stack) : t.unserved src = s.unserved src := by
  simp only [State.unserved, State.isPending, State.onStack, Fin.getElem_fin, hp, hs]

@[simp] theorem State.setLine_unserved (k : LineNo) (l : Line) (src : Source) :
    (s.setLine k l).unserved src = s.unserved src := rfl

@[simp] theorem State.setChan_unserved (k : Channel) (c : Chan) (src : Source) :
    (s.setChan k c).unserved src = s.unserved src := rfl

@[simp] theorem State.record_unserved (b : RecBody) : (s.record b).unserved tblSrc = s.unserved tblSrc :=
  State.unserved_congr _ (s.record_pend_ne b (by decide)) (by simp)

@[simp] theorem State.offer_unserved (b : RecBody) : (s.offer b).1.unserved tblSrc = s.unserved tblSrc :=
  s.record_unserved b

theorem State.occur_unserved {src : Source} (q : Option Word) (h : tblSrc ≠ src) :
    (s.occur src q).unserved tblSrc = s.unserved tblSrc :=
  State.unserved_congr _ (s.occur_pend_ne q h) (by simp)

@[simp] theorem State.addCause_unserved (c : Cause) (src : Option Source) :
    (s.addCause c src).unserved tblSrc = s.unserved tblSrc :=
  State.unserved_congr _ (s.addCause_pend_ne c src (by decide)) (by simp)

theorem State.asserted_unserved {src : Source} (x : Contribution) (b : Bool) (h : tblSrc ≠ src) :
    (s.asserted src x b).unserved tblSrc = s.unserved tblSrc :=
  State.unserved_congr _ (s.asserted_pend_ne src x b h (by decide)) (by simp)

@[simp] theorem State.dropped_unserved (src : Source) (x : Contribution) (a b : Bool) :
    (s.dropped src x a b).unserved tblSrc = s.unserved tblSrc := by
  unfold State.dropped; split <;> simp

@[simp] theorem State.clearHard_unserved (src : Source) : (s.clearHard src).unserved tblSrc = s.unserved tblSrc :=
  s.record_unserved _

theorem tblSrc_ne_lineSrc (k : LineNo) : tblSrc ≠ lineSrc k := by revert k; decide

@[simp] theorem State.assertLine_unserved (k : LineNo) : (s.assertLine k).unserved tblSrc = s.unserved tblSrc :=
  State.asserted_unserved _ _ _ (tblSrc_ne_lineSrc k)

@[simp] theorem State.dropLine_unserved (k : LineNo) (a b : Bool) :
    (s.dropLine k a b).unserved tblSrc = s.unserved tblSrc := by
  unfold State.dropLine; dsimp only; split <;> simp

@[simp] theorem State.lineItem_frame (k : LineNo) (level : Bool) :
    (s.lineItem k level).rstcause = s.rstcause ∧ (s.lineItem k level).link = s.link ∧
    (s.lineItem k level).staging = s.staging ∧ (s.lineItem k level).wdg = s.wdg := by
  unfold State.lineItem; dsimp only; split <;> simp

@[simp] theorem State.lineItem_unserved (k : LineNo) (level : Bool) :
    (s.lineItem k level).unserved tblSrc = s.unserved tblSrc := by
  unfold State.lineItem State.lineRaw; dsimp only; (repeat' split) <;> simp

@[simp] theorem State.supItem_unserved (low : Bool) : (s.supItem low).unserved tblSrc = s.unserved tblSrc := by
  unfold State.supItem
  split
  · exact State.asserted_unserved _ _ _ (by decide)
  · unfold State.clearSup
    dsimp only
    split
    · exact State.dropped_unserved _ _ _ _ _
    · rfl
  · rfl

@[simp] theorem State.safeInItem_unserved (level : Bool) :
    (s.safeInItem level).unserved tblSrc = s.unserved tblSrc := by
  unfold State.safeInItem
  split
  · exact State.addCause_unserved _ _ _
  · rfl

@[simp] theorem State.recordRelease_unserved (k : Channel) (n : Byte) :
    (s.recordRelease k n).unserved tblSrc = s.unserved tblSrc := by
  unfold State.recordRelease; split <;> simp

@[simp] theorem State.escalate_unserved (k : Channel) (why : EscReason) :
    (s.escalate k why).unserved tblSrc = s.unserved tblSrc := State.record_unserved _ _

@[simp] theorem State.markChan_unserved (k : Channel) : (s.markChan k).unserved tblSrc = s.unserved tblSrc := by
  unfold State.markChan State.markCycle State.markClearing; dsimp only; (repeat' split) <;> simp

@[simp] theorem State.chanItem_unserved (k : Channel) (m : Bool) :
    (s.chanItem k m).unserved tblSrc = s.unserved tblSrc := by
  unfold State.chanItem State.starveChan; dsimp only; (repeat' split) <;> simp

@[simp] theorem State.applyArmed_channel_unserved (k : Channel) :
    (s.applyArmed (.channel k)).unserved tblSrc = s.unserved tblSrc := State.record_unserved _ _

/-- A CHANNEL commit touches nothing of TABLE's (R45, R53). -/
@[simp] theorem State.applyArmed_channel_table (k : Channel) :
    (s.applyArmed (.channel k)).staging.tableValid = s.staging.tableValid ∧
    (s.applyArmed (.channel k)).staging.armedTable = s.staging.armedTable := by
  simp [State.applyArmed, State.applyCommit, State.copyScope, State.disarm]

/-! ### The two soft resets -/

/-- `t` stands as a PROT has left it, of `s` but for the rest of its tick (R168, R173). -/
def ProtFell (s t : State) : Prop :=
  ∃ why, t.rstcause = ⟨.prot why, s.rstcause.sticky ||| (ResetKind.prot why).stickyBit⟩ ∧
    t.link = s.link.reset (.prot why)

theorem State.protReset_fell {s u : State} (why : ProtCause) (hr : u.rstcause = s.rstcause) (hl : u.link = s.link) :
    ProtFell s (u.protReset why) :=
  ⟨why, by simp [State.protReset, State.softResetBlocks, hr], by simp [State.protReset, State.softResetBlocks, hl]⟩

theorem State.cmdReset_rstcause : s.cmdReset.rstcause = ⟨.cmd, s.rstcause.sticky ||| ResetKind.cmd.stickyBit⟩ := by
  simp [State.cmdReset, State.softResetBlocks]

theorem State.cmdReset_link : s.cmdReset.link = s.link.reset .cmd := by
  simp [State.cmdReset, State.softResetBlocks]

theorem State.softReset_unserved (kind : ResetKind) (cold : Bool) : (s.softReset kind cold).unserved tblSrc = false := by
  have hb : (s.softResetBlocks kind cold).unserved tblSrc = false := by
    simp [State.unserved, State.isPending, State.onStack, State.softResetBlocks, Arbiter.softReset]
  have hout : ∀ (u : State) (h : Bool), (u.recomputeOutputs.recomputeIrq h).unserved tblSrc = u.unserved tblSrc :=
    fun _ _ => rfl
  unfold State.softReset
  dsimp only
  split <;> simp [hout, hb]

theorem State.cmdReset_defused : Defused s.cmdReset where
  table := by simp [State.cmdReset, State.softResetBlocks, Staging.softReset]
  unarmed := by simp [State.cmdReset, State.softResetBlocks, Staging.softReset]
  off := by simp [State.cmdReset, State.softResetBlocks, Watchdog.softReset]
  served := s.softReset_unserved .cmd true

/-! ### Phase 1: what a transaction does to RSTCAUSE -/

/-- An action performs no reset and at most clears the sticky bits, or it is the confirmed RESET_DEVICE (R172, R174). -/
theorem actByCode_rstcause (code : Byte) (armed : Option Confirmation) (args : Quad) :
    (actByCode code armed args s).Holds (LosesBits s) fun t => armed ≠ none ∧ t = s.cmdReset := by
  have kept : ∀ {t : State} {v p}, t.rstcause = s.rstcause →
      (ActOut.done t v p).Holds (LosesBits s) fun t => armed ≠ none ∧ t = s.cmdReset := fun h => .done (.inl h)
  unfold actByCode
  split
  · unfold actAccept; (repeat' split) <;> exact kept rfl
  · unfold actDone; dsimp only; (repeat' split) <;> exact kept rfl
  · unfold actSetLevel; dsimp only; (repeat' split) <;> exact kept rfl
  · exact kept rfl
  · unfold actCancel; dsimp only; (repeat' split) <;> exact kept rfl
  · unfold actCommit commitChecked; dsimp only; (repeat' split) <;> exact kept (by simp)
  · unfold actAbortCommit; (repeat' split) <;> exact kept (by simp)
  · unfold actClearLatch; dsimp only; (repeat' split) <;> exact kept rfl
  · unfold actForceTrip; dsimp only; (repeat' split) <;> exact kept (by simp)
  · exact kept (by simp)
  · refine ifConfirmed_holds _ _ _ _ _ (.inl rfl) ?_
    unfold exitChecked; dsimp only; (repeat' split) <;> exact kept (by simp)
  · unfold actJournalPop; (repeat' split) <;> exact kept rfl
  · refine kept ?_
    (repeat' split) <;> simp [State.lapseNow]
  · unfold actWdgArm; dsimp only; (repeat' split) <;> exact kept rfl
  · unfold actLock; split <;> exact kept rfl
  · refine ifConfirmed_holds _ _ _ _ _ (.inl rfl) ?_
    split <;> exact kept rfl
  · unfold actConfirm; dsimp only; split <;> exact kept rfl
  · unfold actResetDevice ifConfirmed
    split
    · split
      · exact .reset ⟨by simp, rfl⟩
      · exact kept rfl
    · exact kept rfl
  · refine ifConfirmed_holds _ _ _ _ _ (.inl rfl) ?_
    split <;> exact kept rfl
  · exact kept rfl
  · exact .done (.inr rfl)
  · exact kept rfl

theorem Reg.store_rstcause (r : Reg) (w : Word) : (r.store w s).rstcause = s.rstcause := by
  cases r <;> simp [Reg.store]

theorem State.storeWords_rstcause (ws : List (Nat × Reg × Word)) :
    ∀ s : State, (s.storeWords ws).rstcause = s.rstcause := by
  induction ws with
  | nil => exact fun _ => rfl
  | cons x rest ih => exact fun s => (ih _).trans (Reg.store_rstcause s x.2.1 x.2.2)

/-- `t` stands as a CMD has left it, which a confirmation armed in `s` has let pass (R168, R172, R173). -/
def CmdFell (s t : State) : Prop :=
  s.link.confirm ≠ none ∧ t.rstcause = ⟨.cmd, s.rstcause.sticky ||| ResetKind.cmd.stickyBit⟩ ∧
    t.link.Deaf ∧ Defused t

/-- A transaction at most clears the sticky bits, or performs a CMD that an armed confirmation lets pass. -/
theorem State.applyJudged_rstcause (j : Judged) : (s.applyJudged j).Holds (LosesBits s) (CmdFell s) := by
  cases j with
  | action tag code args =>
    unfold State.applyJudged State.applyAction
    dsimp only
    split
    · exact .goes (.inl rfl)
    · generalize ho : actByCode code s.link.confirm args s.endConfirm = o
      cases ho ▸ actByCode_rstcause s.endConfirm code s.link.confirm args with
      | done h => exact .goes h
      | reset h =>
        obtain ⟨ha, rfl⟩ := h
        refine .abandoned ⟨ha, State.cmdReset_rstcause _, ?_, State.cmdReset_defused _⟩
        rw [State.cmdReset_link]
        exact Link.reset_deaf _ _
  | write tag start count data =>
    refine .goes (.inl ?_)
    unfold State.applyWrite
    dsimp only
    split
    · rfl
    · exact State.storeWords_rstcause _ _
  | read tag start count snapped => exact .goes (.inl rfl)
  | bad kind tag short p => exact .goes (.inl rfl)

/-! ### Items: what they do to RSTCAUSE and the link -/

/-- `s` leads to `t` without a reset and without a transaction: RSTCAUSE and the link stay, and nothing arises that raises
PROT. -/
structure Runs (s t : State) : Prop where
  cause : t.rstcause = s.rstcause
  link : t.link = s.link
  calm : Defused s → Defused t

end

theorem Runs.of_blocks {s t : State} (hr : t.rstcause = s.rstcause) (hl : t.link = s.link) (hg : t.staging = s.staging)
    (hw : t.wdg = s.wdg) (hu : t.unserved tblSrc = s.unserved tblSrc) : Runs s t :=
  ⟨hr, hl, fun h => ⟨hg ▸ h.table, hg ▸ h.unarmed, hw ▸ h.off, hu ▸ h.served⟩⟩

theorem Runs.refl (s : State) : Runs s s := ⟨rfl, rfl, id⟩

theorem Runs.trans {s t u : State} (h : Runs s t) (g : Runs t u) : Runs s u :=
  ⟨g.cause.trans h.cause, g.link.trans h.link, g.calm ∘ h.calm⟩

/-- A PROT performed in `s`, which something there could raise. -/
def Breaks (s t : State) : Prop := ¬ Defused s ∧ ProtFell s t

theorem Runs.breaks {s t u : State} (h : Runs s t) (g : Breaks t u) : Breaks s u := by
  obtain ⟨hd, why, hr, hl⟩ := g
  exact ⟨fun hs => hd (h.calm hs), why, h.cause ▸ hr, h.link ▸ hl⟩

/-- A part of a tick, on `s`, that goes on without a reset or is abandoned by a PROT. -/
abbrev Progress.OnlyProt (p : Progress) (s : State) : Prop := p.Holds (Runs s) (Breaks s)

/-- What runs before a part of a tick belongs to it. -/
theorem Progress.OnlyProt.after {s u : State} {p : Progress} (hp : p.OnlyProt u) (h : Runs s u) : p.OnlyProt s := by
  cases hp with
  | goes g => exact .goes (h.trans g)
  | abandoned g => exact .abandoned (h.breaks g)

/-- Two parts of a tick in sequence. -/
theorem Progress.OnlyProt.bind {p : Progress} {f : State → Progress} {s : State} (h : p.OnlyProt s)
    (hf : ∀ t, (f t).OnlyProt t) : (p.bind f).OnlyProt s := by
  cases h with
  | goes h => exact (hf _).after h
  | abandoned h => exact .abandoned h

/-- A raise of a hard critical stores no result; its conflict is a PROT (R145, R147). -/
theorem State.raiseHard_onlyProt {s : State} {src : Source} (c : Cause) {other : Source}
    (hu : Defused s → tblSrc ≠ src ∧ other = tblSrc) : (s.raiseHard src c other).OnlyProt s := by
  unfold State.raiseHard
  dsimp only
  split
  · rename_i ho
    refine .abandoned ⟨fun hd => ?_, State.protReset_fell _ (by simp) (by simp)⟩
    obtain ⟨hne, rfl⟩ := hu hd
    rw [State.occur_unserved _ _ hne, State.offer_unserved, State.addCause_unserved, hd.served] at ho
    exact absurd ho (by decide)
  · refine .goes ⟨by simp, by simp, fun hd => ?_⟩
    obtain ⟨hne, -⟩ := hu hd
    exact (Runs.of_blocks (s := s) (by simp) (by simp) (by simp) (by simp)
      (by rw [State.occur_unserved _ _ hne, State.offer_unserved, State.addCause_unserved])).calm hd

/-- The end of a pass, which a running scrubber alone reaches (R54, R55). -/
theorem State.scrubPassEnd_onlyProt {s : State} (hv : s.staging.tableValid = true) : s.scrubPassEnd.OnlyProt s := by
  have live : ¬ Defused s := fun hd => by simp [hd.table] at hv
  have kept : ∀ {t : State}, t.rstcause = s.rstcause → t.link = s.link → Runs s t :=
    fun hr hl => ⟨hr, hl, fun hd => absurd hd live⟩
  unfold State.scrubPassEnd
  dsimp only
  split
  · split
    · exact .goes (kept (by simp) (by simp))
    · exact .goes (kept rfl rfl)
  · split
    · exact .goes (kept rfl rfl)
    · refine Progress.OnlyProt.after (State.raiseHard_onlyProt .table fun hd => ?_) (kept rfl rfl)
      exact absurd ⟨hd.table, hd.unarmed, hd.off, hd.served⟩ live

theorem State.scrubItem_onlyProt (s : State) : s.scrubItem.OnlyProt s := by
  unfold State.scrubItem
  split
  · unfold State.scrubRead
    split
    · exact .goes (.of_blocks rfl rfl rfl rfl rfl)
    · split
      · exact .goes (.of_blocks rfl rfl rfl rfl rfl)
      · exact State.scrubPassEnd_onlyProt ‹_›
  · exact .goes (.refl s)

/-- The supervisor's item: LAPSED alone breaks the tick (R150, R154). -/
theorem State.wdgItem_onlyProt (s : State) : s.wdgItem.OnlyProt s := by
  have live : s.wdg.st ≠ .off → ¬ Defused s := fun h hd => h hd.off
  unfold State.wdgItem
  dsimp only
  split
  · exact .goes (.refl s)
  · rename_i hw
    split <;> exact .goes ⟨rfl, rfl, fun hd => absurd hd (live (by simp [hw]))⟩
  · rename_i hw
    split
    · exact .goes ⟨by simp, by simp, fun hd => absurd hd (live (by simp [hw]))⟩
    · exact .goes ⟨rfl, rfl, fun hd => absurd hd (live (by simp [hw]))⟩
  · rename_i hw
    have hl := live (by simp [hw])
    split
    · exact .abandoned ⟨hl, State.protReset_fell _ rfl rfl⟩
    · exact .goes ⟨rfl, rfl, fun hd => absurd hd hl⟩

/-- A hand-off of the clock monitor (R10, R145). -/
theorem State.handOff_onlyProt (s : State) (h : HandOff) : (s.handOff h).OnlyProt s := by
  cases h with
  | raise =>
    exact Progress.OnlyProt.after (State.raiseHard_onlyProt .clock fun _ => ⟨by decide, rfl⟩)
      (.of_blocks rfl rfl rfl rfl rfl)
  | clear => exact .goes (.of_blocks (by simp) (by simp) (by simp) (by simp) (State.clearHard_unserved _ _))

theorem handOffsFrom_onlyProt (l : List HandOff) : ∀ s : State, (handOffsFrom l s).OnlyProt s := by
  induction l with
  | nil => exact fun s => .goes (.refl s)
  | cons h rest ih =>
    intro s
    exact Progress.OnlyProt.after ((State.handOff_onlyProt { s with clk := { s.clk with handOffs := rest } } h).bind ih)
      (.of_blocks rfl rfl rfl rfl rfl)

theorem State.clkItem_onlyProt (s : State) : s.clkItem.OnlyProt s :=
  (handOffsFrom_onlyProt _ { s with clk := { s.clk with seen := s.clk.mon } }).after (.of_blocks rfl rfl rfl rfl rfl)

/-- A commit that was armed: TABLE's starts the scrubber, so that none was armed where PROT has no source (R47, R54). -/
theorem State.commitItem_runs (s : State) (scope : Scope) (k : Channel) : Runs s (s.commitItem scope k) := by
  unfold State.commitItem
  split
  · rename_i h
    cases scope with
    | table => exact ⟨by simp, by simp, fun hd => by simp [Staging.armed, hd.unarmed] at h⟩
    | channel c =>
      exact ⟨by simp, by simp, fun hd =>
        ⟨by simp [hd.table], by simp [hd.unarmed], by simp [hd.off], by simp [hd.served]⟩⟩
  · exact .refl s

/-- No item touches the link or RSTCAUSE but by a PROT (R15). -/
theorem State.runItem_onlyProt (s : State) (inp : Samples) (i : Item) : (s.runItem inp i).OnlyProt s := by
  cases i with
  | line k => exact .goes (.of_blocks (by simp) (by simp) (by simp) (by simp) (by simp))
  | sup => exact .goes (.of_blocks (by simp) (by simp) (by simp) (by simp) (by simp))
  | safeIn => exact .goes (.of_blocks (by simp) (by simp) (by simp) (by simp) (by simp))
  | wdg => exact s.wdgItem_onlyProt
  | scrub => exact s.scrubItem_onlyProt
  | clk => exact s.clkItem_onlyProt
  | chan k => exact .goes (.of_blocks (by simp) (by simp) (by simp) (by simp) (by simp))
  | keepMarks => exact .goes (.of_blocks rfl rfl rfl rfl rfl)
  | commitTable k => exact .goes (s.commitItem_runs .table k)
  | commitChannel k => exact .goes (s.commitItem_runs (.channel k) k)
  | outputs => exact .goes (.of_blocks rfl rfl rfl rfl rfl)
  | irq => exact .goes (.of_blocks rfl rfl rfl rfl rfl)
  | holdoff => exact .goes (.of_blocks rfl rfl rfl rfl rfl)

theorem runItems_onlyProt (inp : Samples) (l : List Item) : ∀ s : State, (runItems inp l s).OnlyProt s := by
  induction l with
  | nil => exact fun s => .goes (.refl s)
  | cons i rest ih => exact fun s => (s.runItem_onlyProt inp i).bind ih

/-- The tick in progress ends without a reset or by a PROT. -/
theorem State.settle_runs (s : State) : Runs s s.settle ∨ Breaks s s.settle := by
  unfold State.settle
  split
  · exact .inl (.refl s)
  · rename_i t _
    have h : ((runItems t.inp t.left s).bind fun u => .goes (u.endTick t.inp)).OnlyProt s :=
      (runItems_onlyProt t.inp t.left s).bind fun u => .goes (.of_blocks rfl rfl rfl rfl rfl)
    exact h.st (fun _ => Or.inl) fun _ => Or.inr

/-- The items before an event's own run without a reset. -/
theorem runTo_runs {i : Item} {inp : Samples} (l : List Item) :
    ∀ {s u : State}, runTo i inp l s = some u → Runs s u := by
  induction l with
  | nil => exact fun e => by cases e
  | cons j rest ih =>
    intro s u e
    unfold runTo at e
    split at e
    · cases e; exact .of_blocks rfl rfl rfl rfl rfl
    · have h := s.runItem_onlyProt inp j
      split at e
      · rename_i t ht
        rw [ht] at h
        cases h with | goes h => exact h.trans (ih e)
      · cases e

theorem State.runNext_runs (s : State) : Runs s s.runNext ∨ Breaks s s.runNext := by
  unfold State.runNext
  split
  · rename_i inp i _ _
    have h := (s.past.runItem_onlyProt inp i).after (s := s) (.of_blocks rfl rfl rfl rfl rfl)
    exact h.st (fun _ => Or.inl) fun _ => Or.inr
  · exact .inl (.refl s)

/-! ### What a step has done since its beginning -/

/-- What a step that began with the sticky bits `b` has come to in `s`: no bit is new yet; or a reset has left no confirmation
and no waiting transaction, so that no RESET_DEVICE can pass, and that was a PROT, or a CMD that has left nothing that
raises PROT. -/
inductive Since (b : BitVec 4) (s : State) : Prop where
  | kept (h : NoNewBit b s)
  | reset (h : NewBitIsLast b s) (hl : s.link.Deaf) (hk : s.rstcause.last.code = 3 ∨ Defused s)

namespace Since

variable {b : BitVec 4} {s t : State}

theorem newBitIsLast (h : Since b s) : NewBitIsLast b s := by
  cases h with
  | kept h => exact h.newBitIsLast
  | reset h => exact h

/-- A change that arms no confirmation, makes no transaction wait and brings nothing that raises PROT. -/
theorem mono (h : Since b s) (hr : t.rstcause = s.rstcause) (hl : s.link.Deaf → t.link.Deaf)
    (hd : Defused s → Defused t) : Since b t := by
  cases h with
  | kept h => exact .kept (h.congr hr)
  | reset h h1 hk => exact .reset (h.congr hr) (hl h1) (hk.imp (fun x => hr ▸ x) hd)

theorem runs (h : Since b s) (g : Runs s t) : Since b t := h.mono g.cause (fun x => g.link ▸ x) g.calm

/-- A PROT comes after another one at most, never after a CMD. -/
theorem breaks (h : Since b s) (g : Breaks s t) : Since b t := by
  obtain ⟨hd, why, hr, hl⟩ := g
  refine .reset (h.newBitIsLast.of_reset hr ?_) (hl ▸ Link.reset_deaf _ _) (.inl (by rw [hr]; rfl))
  cases h with
  | kept h => exact .inl h
  | reset _ _ hk => exact .inr (hk.resolve_right hd)

theorem runs_or_breaks (h : Since b s) (g : Runs s t ∨ Breaks s t) : Since b t := g.elim h.runs h.breaks

theorem settle (h : Since b s) : Since b s.settle := h.runs_or_breaks s.settle_runs

/-! ### Ticks and events -/

theorem beginTick (h : Since b s) (inp : Samples) : Since b (s.beginTick inp).noWaiting := by
  refine h.mono (by simp) (fun hl => ⟨hl.1, rfl⟩) fun hd => ⟨?_, ?_, ?_, hd.served⟩
  · simpa using hd.table
  · simpa using hd.unarmed
  · simpa using hd.off

/-- A transaction taken before any bit is new: it sets none, or it performs a CMD (R172). -/
theorem applyJudged (h : NoNewBit b s) (j : Judged) : (s.applyJudged j).Holds (NoNewBit b) (Since b) := by
  refine (s.applyJudged_rstcause j).mono (fun t g => h.loses g) fun t g => ?_
  obtain ⟨-, hr, hl, hd⟩ := g
  exact .reset (h.newBitIsLast.of_reset hr (.inl h)) hl (.inr hd)

/-- Phase 1 before any bit is new: a CMD abandons the transactions behind it (R3, R15). -/
theorem applyAll (l : List Judged) :
    ∀ {s : State}, NoNewBit b s → (Machine.applyAll l s).Holds (NoNewBit b) (Since b) := by
  induction l with
  | nil => exact fun h => .goes h
  | cons j rest ih => exact fun h => (applyJudged h j).bind fun t ht => ih ht

theorem openTick (h : Since b s) (inp : Samples) : Since b (s.openTick inp).st := by
  have hb := h.beginTick inp
  cases h with
  | kept h =>
    have h0 : NoNewBit b (s.beginTick inp).noWaiting := h.congr (by simp)
    exact (applyAll _ h0).st (fun _ => Since.kept) fun _ => id
  | reset _ hl =>
    unfold State.openTick
    rw [hl.2]
    exact hb

theorem wholeTick (h : Since b s) (inp : Samples) : Since b (s.wholeTick inp) := by
  unfold State.wholeTick
  split
  · exact h
  · exact (h.settle.openTick inp).settle

theorem tickFor (h : Since b s) (w : Option Samples) : Since b (s.tickFor w) := by
  cases w with
  | none => exact h
  | some inp => exact h.settle.openTick inp

theorem meets {u : State} (h : Since b s) {w : Option Samples} {e : Event} (hu : s.meets w e = some u) : Since b u := by
  have hr : s.reach w e.item = some u := (Option.filter_eq_some_iff.mp hu).1
  unfold State.reach at hr
  dsimp only at hr
  split at hr
  · exact (h.tickFor w).runs (runTo_runs _ hr)
  · cases hr

theorem event (h : Since b s) (e : Event) : Since b (s.event e) := by
  have next : ∀ {w u}, s.meets w e = some u → Since b u.runNext :=
    fun hu => (h.meets hu).runs_or_breaks (State.runNext_runs _)
  unfold State.event
  split
  · exact h
  · split
    · exact next ‹_›
    · split
      · exact next ‹_›
      · exact h

theorem clockEvent (h : Since b s) (e : ClockEvent) : Since b (s.clockEvent e) :=
  h.runs (.of_blocks rfl rfl rfl rfl rfl)

/-! ### Transactions -/

/-- The link changed, but for the confirmation and the transactions that wait. -/
theorem withLink (h : Since b s) (l : Link) (hc : l.confirm = s.link.confirm) (hw : l.waiting = s.link.waiting) :
    Since b { s with link := l } :=
  h.mono rfl (fun hl => ⟨hc.trans hl.1, hw.trans hl.2⟩) fun hd => ⟨hd.table, hd.unarmed, hd.off, hd.served⟩

theorem clockByte (h : Since b s) (x : Byte) : Since b (s.clockByte x) := by
  unfold State.clockByte
  split
  · exact h
  · dsimp only
    split <;> exact h.withLink _ rfl rfl

theorem lift (h : Since b s) : Since b s.lift := by
  unfold State.lift
  split
  · exact h
  · exact h.withLink _ rfl rfl

theorem mid (h : Since b s) (e : MidEvent) : Since b (s.mid e) := by
  cases e with
  | tick inp => exact h.wholeTick inp
  | clock e => exact h.clockEvent e

theorem mids (l : List Mid) : ∀ {s : State}, Since b s → Since b (l.foldl (fun s m => s.mid m.event) s) := by
  induction l with
  | nil => exact fun h => h
  | cons m rest ih => exact fun h => ih (h.mid m.event)

theorem carry (bytes : List Byte) :
    ∀ (n : Nat) (l : List Mid) {s : State}, Since b s → Since b (Machine.carry n bytes l s) := by
  induction bytes with
  | nil => exact fun _ l _ h => mids l h
  | cons x rest ih => exact fun n l s h => ih _ _ ((mids _ h).clockByte x)

end Since

theorem State.lift_rstcause (s : State) : s.lift.rstcause = s.rstcause := by
  unfold State.lift; split <;> rfl

theorem State.lift_deaf {s : State} (h : s.link.Deaf) : s.lift.link.Deaf := by
  unfold State.lift; split <;> exact h

theorem State.await_rstcause (s : State) (j : Option Judged) : (s.await j).rstcause = s.rstcause := by
  cases j <;> rfl

/-- A rise of nCS judges the transaction in flight, or there is none. -/
theorem State.rise_eq (s : State) (bytes : List Byte) :
    s.rise bytes = s.lift.await (s.link.flight.bind fun q => q.judged bytes) := by
  unfold State.rise State.lift
  split <;> simp_all [State.await]

theorem State.rise_rstcause (s : State) (bytes : List Byte) : (s.rise bytes).rstcause = s.rstcause := by
  rw [State.rise_eq, State.await_rstcause, State.lift_rstcause]

theorem State.take_rstcause (s : State) (bytes : List Byte) : (s.take bytes).rstcause = s.rstcause := by
  unfold State.take
  split
  · rfl
  · split
    · rfl
    · exact State.rise_rstcause _ _

/-- A transaction that a PROT has abandoned is not judged (R168), so none waits after nCS has fallen for the next one. -/
theorem ProtFell.take_deaf {s t : State} (h : ProtFell s t) (bytes : List Byte) : (t.take bytes).link.Deaf := by
  obtain ⟨why, -, hl⟩ := h
  have hd : t.link.Deaf := hl ▸ Link.reset_deaf _ _
  unfold State.take
  split
  · exact hd
  · rename_i q hq
    have hj : q.judged q.host = none := by
      rw [hl] at hq
      obtain ⟨p, -, rfl⟩ := Option.map_eq_some_iff.mp hq
      rfl
    split
    · exact hd
    · have e : t.rise q.host = t.lift := by rw [State.rise_eq, hq, Option.bind_some, hj]; rfl
      rw [e]
      exact State.lift_deaf hd

namespace Since

variable {b : BitVec 4} {s : State}

/-- A transaction up to some bytes, of a step that begins with it. -/
theorem transfer (h : NoNewBit b s) (bytes : List Byte) (during : List Mid) : Since b (s.transfer bytes during) := by
  refine carry _ _ _ ?_
  obtain hs | hs := s.settle_runs
  · exact .kept (h.congr ((State.take_rstcause _ _).trans hs.cause))
  · have hr := State.take_rstcause s.settle bytes
    refine .reset (((Since.kept h).breaks hs).newBitIsLast.congr hr) (hs.2.take_deaf bytes) (.inl ?_)
    obtain ⟨-, why, hw, -⟩ := hs
    rw [hr, hw]
    rfl

/-- One transaction more, taken where no confirmation is armed, performs no reset. -/
theorem proceed_await (h : Since b s) (hl : s.link.Deaf) (j : Option Judged) (w : Option Samples) :
    NewBitIsLast b ((s.await j).proceed w) := by
  cases w with
  | none => exact h.newBitIsLast.congr (State.await_rstcause s j)
  | some inp =>
    cases j with
    | none => exact (h.openTick inp).newBitIsLast
    | some j =>
      have hb : NewBitIsLast b (s.beginTick inp).noWaiting := (h.beginTick inp).newBitIsLast
      have hw : (s.await (some j)).link.waiting = [j] := by simp [State.await, hl.2]
      have e : ((s.await (some j)).openTick inp).st = ((s.beginTick inp).noWaiting.applyJudged j).st := by
        unfold State.openTick
        rw [hw]
        change (((s.beginTick inp).noWaiting.applyJudged j).bind (Machine.applyAll [])).st = _
        cases (s.beginTick inp).noWaiting.applyJudged j <;> rfl
      change NewBitIsLast b ((s.await (some j)).openTick inp).st
      rw [e]
      exact ((s.beginTick inp).noWaiting.applyJudged_rstcause j).st (fun _ g => hb.loses g)
        fun _ g => absurd hl.1 g.1

/-- The end of a frame: nCS rises, and the next tick may begin. -/
theorem rise_proceed (h : Since b s) (bytes : List Byte) (w : Option Samples) :
    NewBitIsLast b ((s.rise bytes).proceed w) := by
  rw [State.rise_eq]
  have hs := h.lift
  cases h with
  | kept h =>
    have hr : NoNewBit b (s.lift.await (s.link.flight.bind fun q => q.judged bytes)) :=
      h.congr (by rw [State.await_rstcause, State.lift_rstcause])
    cases w with
    | none => exact hr.newBitIsLast
    | some inp => exact ((Since.kept hr).openTick inp).newBitIsLast
  | reset _ hl => exact hs.proceed_await (State.lift_deaf hl) _ w

end Since

/-! ### Commands -/

variable {b : BitVec 4} {s : State}

theorem State.frame_newBitIsLast (h : NoNewBit b s) (bytes : List Byte) (c : Course) :
    NewBitIsLast b (s.frame bytes c) := by
  unfold State.frame
  split
  · exact h.newBitIsLast
  · exact (Since.transfer h bytes c.during).rise_proceed bytes c.next

theorem State.readBoundary_newBitIsLast (h : NoNewBit b s) (f : Frame) (r : WordRange) :
    NewBitIsLast b (s.readBoundary f r) := by
  unfold State.readBoundary
  split
  · exact h.newBitIsLast
  · exact (Since.transfer h (readBytes f.tag r.start r.count) f.during).newBitIsLast.congr (by simp)

/-- A POR leaves its own sticky bit alone (R173). -/
theorem State.powerOn_newBitIsLast (b : BitVec 4) (s : State) : NewBitIsLast b s.powerOn :=
  fun _ _ h => ResetKind.code_eq_of_stickyBit (a := .por) h

theorem State.pinLow_newBitIsLast (h : NoNewBit b s) : NewBitIsLast b s.pinLow := by
  unfold State.pinLow
  dsimp only
  split
  · exact h.newBitIsLast
  · exact h.newBitIsLast.of_reset (kind := .pin) rfl (.inl h)

theorem exec_frameOf {c : Instr} {f : Frame} {bytes : List Byte} (h : frameOf c = some (f, bytes)) (s : State) :
    exec c s = .next (s.send f bytes) := by
  cases c <;> cases h <;> rfl

theorem exec_eventOf {c : Instr} {e : Event} (h : eventOf c = some e) (s : State) : exec c s = .next (s.event e) := by
  cases c <;> cases h <;> rfl

/-- A command sets a sticky bit only by a reset of its kind, which is then the last one. -/
theorem exec_newBitIsLast (h : NoNewBit b s) (c : Instr) {t : State} (e : exec c s = .next t) : NewBitIsLast b t := by
  have done : ∀ {u : State}, exec c s = .next u → NewBitIsLast b u → NewBitIsLast b t := fun hu hn => by
    rw [hu] at e
    cases e
    exact hn
  have clock : ∀ v, NewBitIsLast b (s.settle.clockEvent v) :=
    fun v => ((Since.kept h).settle.clockEvent v).newBitIsLast
  cases hf : frameOf c with
  | some p => exact done (exec_frameOf hf s) (State.frame_newBitIsLast h _ _)
  | none =>
    cases he : eventOf c with
    | some v => exact done (exec_eventOf he s) ((Since.kept h).event v).newBitIsLast
    | none =>
      cases c with
      | tick inp => exact done rfl ((Since.kept h).wholeTick inp).newBitIsLast
      | refclkMissing => exact done rfl (clock _)
      | refclkReturn => exact done rfl (clock _)
      | refclkLostAgain => exact done rfl (clock _)
      | clockRecovered => exact done rfl (clock _)
      | refclkGoodPeriod => exact done rfl (clock _)
      | por => exact done rfl (State.powerOn_newBitIsLast b s)
      | pinReset => exact done rfl (State.pinLow_newBitIsLast h)
      | frameError bytes course => exact done rfl (State.frame_newBitIsLast h _ _)
      | readSnapshot f range => exact done rfl (State.readBoundary_newBitIsLast h _ _)
      | pwmInputEdge k side level => exact done rfl h.newBitIsLast
      | resetRelease line => cases line <;> exact done rfl h.newBitIsLast
      | _ => simp [frameOf, eventOf] at hf he

/-- A step sets a sticky bit only by a reset of its kind, which is then the last one (R173). -/
theorem step_newBitIsLast {s t : State} (e : step s = .next t) : NewBitIsLast s.rstcause.sticky t := by
  unfold step at e
  split at e
  · cases e
    exact fun _ h0 h1 => absurd h0 h1
  · rename_i c rest _
    exact exec_newBitIsLast (s := s.withPending rest) (fun _ h0 => h0) c e

/-- Settles O56: the action's own answer, and the resets that one step can hold. -/
theorem clearCauseClearsTheStickyBits : Obligations.ClearCauseClearsTheStickyBits :=
  ⟨fun _ _ _ _ h => exec_clearCause_taken h, fun _ _ kind e h0 h1 => step_newBitIsLast e kind h0 h1⟩

end Sys2Proof.Machine
end

section
/-! SUPPORT. What the parts of a step can do to the state, said once for the invariants: the answers of an action, the words
of a WRITE, the supervisor's and the scrubber's moves, a raise of a hard critical. `Steady` names what a property of the
state must survive; `Steady.keeps` makes of it the property that every step keeps. -/

namespace Sys2Proof.Machine

/-! ### Actions -/

/-- What an action that performs no reset can make of the state (Table 10-5). -/
inductive ActMove (s : State) : State → Prop where
  | same : ActMove s s
  | spurious : ActMove s s.countSpurious
  | handOver {src : Source} {p : Pend} (hw : s.winner = some src) (hp : s.arb.pend[src] = some p)
      (hl : s.arb.stack.length < Config.stackSlots) : ActMove s (s.handOver src p)
  | pop {e : StackEntry} {rest : List StackEntry} (h : s.arb.stack = e :: rest) :
      ActMove s { s with arb := { s.arb with sl := e.savedSL, stack := rest } }
  | setLevel {n : Level} (hn : n.val < 8) (hs : s.arb.sl.val < 8) : ActMove s { s with arb := { s.arb with sl := n } }
  | holdoff (hd : Word) : ActMove s { s with arb := { s.arb with hd := hd } }
  | cancel (src : Source) : ActMove s (s.setPend src none).countCancel
  | commit (scope : Scope) : ActMove s (s.applyCommit scope)
  | arm (scope : Scope) (m : Channel) : ActMove s (s.arm scope m)
  | disarm (scope : Scope) : ActMove s (s.disarm scope)
  | clearLatch {mask : ChannelMask} (h0 : mask ≠ 0)
      (h : ∀ k : Channel, mask.getLsbD k.val = true → s.clearBlock k = none) :
      ActMove s (s.mapChans fun k c => if mask.getLsbD k.val then s.clearedChan k c else c)
  | forceTrip (mask : ChannelMask) (t : TripKind) : ActMove s (s.forceTrip mask t)
  | forceSafe : ActMove s (s.addCause .forced none)
  | exitSafe : ActMove s s.exitHold
  | journalPop {r : Rec} {rest : List Rec} (h : s.journal.queue = r :: rest) :
      ActMove s { s with journal := { s.journal with queue := rest } }
  | lapse (h : s.wdg.st = .closed ∨ s.wdg.st = .opened) : ActMove s s.lapseNow
  | keptAlive (h : s.wdg.st = .opened) : ActMove s { s with wdg := s.wdg.accepted }
  | revived (h : s.wdg.st = .lapsed) : ActMove s ({ s with wdg := s.wdg.accepted } : State).clearLnk
  | wdgArm (h : s.wdg.st = .off) : ActMove s { s with wdg := { s.wdg.enterClosed true with token := 0 } }
  | setLocked (b : Bool) : ActMove s (s.setLocked b)
  | confirm (c : Confirmation) : ActMove s { s with link := { s.link with confirm := some c } }
  | selftest (h : s.staging.tableValid = true) : ActMove s { s with scrub := { s.scrub with ref := ~~~s.scrub.ref } }
  | clearCounters : ActMove s { s with
      counters := ⟨0, 0, 0⟩
      journal := { s.journal with lostCnt := 0, evictCnt := 0, protOverflow := false } }
  | clearCause : ActMove s { s with rstcause := { s.rstcause with sticky := 0 } }

/-- The check of CLEAR_LATCH fails for no channel exactly if it fails for no named one (R77). -/
theorem State.firstBlock_none {s : State} {mask : ChannelMask} {l : List Channel} :
    s.firstBlock mask l = none ↔ ∀ k ∈ l, mask.getLsbD k.val = true → s.clearBlock k = none := by
  induction l with
  | nil => simp [State.firstBlock]
  | cons k rest ih =>
    unfold State.firstBlock
    cases hm : mask.getLsbD k.val with
    | false => simp_all
    | true => cases hb : s.clearBlock k <;> simp_all

theorem mem_allChannels (k : Channel) : k ∈ allChannels := by revert k; decide

theorem levelArg_lt {b : Byte} {n : Level} (h : levelArg b = some n) : n.val < 8 := by
  unfold levelArg at h
  split at h
  · cases h; assumption
  · cases h

theorem keepaliveStep_move (token : Byte) (s : State) : ActMove s (keepaliveStep token s).1 := by
  unfold keepaliveStep
  split
  · exact .same
  · exact .lapse (.inl ‹_›)
  · split
    · exact .keptAlive ‹_›
    · exact .lapse (.inr ‹_›)
  · split
    · exact .revived ‹_›
    · exact .same

/-- Every action moves the state by one of the named moves, or performs the CMD reset (Table 10-5, R172). -/
theorem actByCode_move (code : Byte) (armed : Option Confirmation) (args : Quad) (s : State) :
    (actByCode code armed args s).Holds (ActMove s) fun t => t = s.cmdReset := by
  have same : ∀ v p, (ActOut.done s v p).Holds (ActMove s) fun t => t = s.cmdReset := fun v p => .done .same
  unfold actByCode
  split
  · unfold actAccept
    split
    · exact .done .spurious
    · split
      · exact .done .spurious
      · split
        · exact .done (.handOver ‹_› ‹_› ‹_›)
        · exact same _ _
  · unfold actDone
    split
    · exact same _ _
    · split
      · exact same _ _
      · dsimp only
        split
        · exact .done (.pop ‹_›)
        · exact same _ _
  · unfold actSetLevel
    dsimp only
    split
    · exact same _ _
    · rename_i n hn
      split
      · exact same _ _
      · rename_i h
        exact .done (.setLevel (levelArg_lt hn) (by omega))
  · exact .done (.holdoff _)
  · unfold actCancel
    split
    · exact same _ _
    · split
      · exact same _ _
      · exact .done (.cancel _)
  · unfold actCommit
    split
    · exact same _ _
    · unfold commitChecked
      split
      · exact same _ _
      · dsimp only
        split
        · exact same _ _
        · split
          · exact .done (.commit _)
          · exact .done (.arm _ _)
  · unfold actAbortCommit
    split
    · exact same _ _
    · split
      · exact .done (.disarm _)
      · exact same _ _
  · unfold actClearLatch
    split
    · exact same _ _
    · split
      · exact same _ _
      · split
        · exact same _ _
        · rename_i h0 _ hb
          exact .done (.clearLatch h0 fun k => State.firstBlock_none.mp hb k (mem_allChannels k))
  · unfold actForceTrip
    split
    · split
      · exact same _ _
      · exact .done (.forceTrip _ _)
    · exact same _ _
  · exact .done .forceSafe
  · refine ifConfirmed_holds _ _ _ _ _ .same ?_
    unfold exitChecked
    dsimp only
    split
    · exact same _ _
    · split
      · exact same _ _
      · split
        · exact same _ _
        · split
          · exact same _ _
          · exact .done .exitSafe
  · unfold actJournalPop
    split
    · exact same _ _
    · split
      · exact .done (.journalPop ‹_›)
      · exact same _ _
  · exact .done (keepaliveStep_move _ _)
  · unfold actWdgArm
    split
    · exact .done (.wdgArm ‹_›)
    · exact same _ _
  · unfold actLock
    split
    · exact same _ _
    · exact .done (.setLocked true)
  · refine ifConfirmed_holds _ _ _ _ _ .same ?_
    split
    · exact .done (.setLocked false)
    · exact same _ _
  · unfold actConfirm
    split
    · exact .done (.confirm _)
    · exact same _ _
  · exact ifConfirmed_holds _ _ _ _ _ .same (.reset rfl)
  · refine ifConfirmed_holds _ _ _ _ _ .same ?_
    split
    · exact .done (.selftest ‹_›)
    · exact same _ _
  · exact .done .clearCounters
  · exact .done .clearCause
  · exact same _ _

/-! ### Words of a WRITE -/

/-- A word that a WRITE may store: an OW of 0 is refused (R148, R162). -/
def Storable (r : Reg) (w : Word) : Prop := r = .wdgcfg → loByte w ≠ 0

theorem firstSome_none {α : Type} {l : List (Option α)} : firstSome l = none ↔ ∀ x ∈ l, x = none := by
  induction l with
  | nil => simp [firstSome]
  | cons x rest ih => cases x <;> simp [firstSome, ih]

theorem failIf_none {test : Bool} {v : Verdict} : failIf test v = none ↔ test = false := by
  cases test <;> simp [failIf]

theorem readOnlyHit_none {ws : List (Nat × Reg × Word)} : readOnlyHit ws = none ↔ ∀ x ∈ ws, x.2.1.writable = true := by
  induction ws with
  | nil => simp [readOnlyHit]
  | cons x rest ih => cases hw : x.2.1.writable <;> simp [readOnlyHit, hw, ih]

theorem State.shadowBusy_none {s : State} {ws : List (Nat × Reg × Word)} :
    s.shadowBusy ws = none ↔ ∀ x ∈ ws, s.busyMark x.2.1 = none := by
  induction ws with
  | nil => simp [State.shadowBusy]
  | cons x rest ih => cases hb : s.busyMark x.2.1 <;> simp [State.shadowBusy, hb, ih]

/-- One of the checks of R162 refuses this word at its register. -/
def State.RefusesWord (s : State) (r : Reg) (w : Word) : Prop :=
  r.writable = false ∨ (s.staging.locked = true ∧ r.lockable = true) ∨ (s.busyMark r).isSome = true ∨
  r.rangeBad w = true ∨ (s.inHold = true ∧ r = .safepat) ∨ (s.arb.stack ≠ [] ∧ r = .arbcfg) ∨
  (r = .wdgcfg ∧ loByte w = 0) ∨ (r = .jrnlCfg ∧ 32 < w.toNat)

/-- A WRITE passes its checks exactly if its range passes and no word is refused (R162). -/
theorem State.writeCheck_none {s : State} {start count : Byte} {data : List Word} :
    s.writeCheck start count data = none ↔
      rangeCheck start count = none ∧ ∀ x ∈ writeWords start count data, ¬ s.RefusesWord x.2.1 x.2.2 := by
  unfold State.writeCheck
  cases rangeCheck start count with
  | some r => simp
  | none =>
    generalize writeWords start count data = ws
    simp only [firstSome_none, List.forall_mem_cons, readOnlyHit_none, failIf_none, State.shadowBusy_none,
      State.RefusesWord, Bool.and_eq_false_iff, List.any_eq_false, not_or, true_and,
      Bool.not_eq_false, Bool.and_eq_true, beq_iff_eq, decide_eq_true_eq, Option.isSome_iff_ne_none]
    grind

/-- The words of a WRITE that passes its checks are storable (R162). -/
theorem State.storable_of_writeCheck {s : State} {start count : Byte} {data : List Word}
    (h : s.writeCheck start count data = none) : ∀ x ∈ writeWords start count data, Storable x.2.1 x.2.2 :=
  fun x hx hr hz => (State.writeCheck_none.mp h).2 x hx (by simp [State.RefusesWord, hr, hz])

/-- A property that the link and storable words leave survives a WRITE (R162). -/
theorem State.applyWrite_keeps {P : State → Prop} (link : ∀ (s : State) (l : Link), P s → P { s with link := l })
    (store : ∀ s r w, P s → Storable r w → P (Reg.store r w s)) {s : State} (h : P s) (tag : BitVec 6) (start count : Byte)
    (data : List Word) : P (s.applyWrite tag start count data) := by
  have words : ∀ (ws : List (Nat × Reg × Word)), (∀ x ∈ ws, Storable x.2.1 x.2.2) → ∀ u, P u → P (u.storeWords ws) := by
    intro ws
    induction ws with
    | nil => exact fun _ _ hu => hu
    | cons x rest ih =>
      exact fun hs u hu => ih (fun y hy => hs y (List.mem_cons_of_mem _ hy)) _ (store _ _ _ hu (hs x List.mem_cons_self))
  have h0 : P s.endConfirm.breakChain := link _ _ (link _ _ h)
  unfold State.applyWrite
  dsimp only
  split
  · exact link _ _ h0
  · rename_i hc
    exact link _ _ (words _ (State.storable_of_writeCheck hc) _ h0)

/-! ### The supervisor and the scrubber -/

/-- What the supervisor's item can make of a supervisor that has not lapsed twice (R150, R152). -/
inductive WdgMove (s : State) : State → Prop where
  | counted (h : s.wdg.st ≠ .off) : WdgMove s { s with wdg := { s.wdg with timer := s.wdg.timerNow, fresh := false } }
  | opens (h : s.wdg.st = .closed) :
      WdgMove s { s with wdg := { s.wdg with timer := s.wdg.timerNow, fresh := false }.enterOpened }
  | lapses (h : s.wdg.st = .opened) :
      WdgMove s ({ s with wdg := { s.wdg with timer := s.wdg.timerNow, fresh := false }.enterLapsed false } : State).raiseLnk

/-- What the scrubber's item can make of a scrubber that runs (R54, R55). -/
inductive ScrubMove (s : State) : Scrubber → Prop where
  | pace : ScrubMove s { s.scrub with pacing := s.scrub.pacing + 1 }
  | read (h : s.scrub.position.val + 1 < 22) :
      ScrubMove s { s.scrub with position := ⟨s.scrub.position.val + 1, h⟩, pacing := 0, acc := s.scrubAcc }
  | pass (c : Bool) : ScrubMove s { s.scrub with position := 0, pacing := 0, acc := 0xFFFF, tblCond := c }

/-- The state after the raise of TBL or CLK, before the conflict check (R145). -/
def State.raised (s : State) (src : Source) (c : Cause) : State :=
  let s1 := s.addCause c none
  let o := s1.offer (s1.assertBody src 0xF .safe (s1.effLevel src) none)
  o.1.occur src o.2

theorem State.raiseHard_eq (s : State) (src : Source) (c : Cause) (other : Source) :
    s.raiseHard src c other =
      if (s.raised src c).unserved other then .abandoned ((s.raised src c).protReset .conflict)
      else .goes (s.raised src c) := rfl

/-! ### What a property must survive -/

/-- `t` is `s` but for the timebase, the clock monitor, the tick in progress, the outputs, the pins, the link, the counters
and the queue. -/
def Aside (s t : State) : Prop :=
  t = { s with
    time := t.time, clk := t.clk, tick := t.tick, outs := t.outs, pins := t.pins, link := t.link
    counters := t.counters, rstcause := t.rstcause, pending := t.pending }

/-- A property that every named part of a step keeps. -/
structure Steady (P : State → Prop) : Prop where
  aside : ∀ {s t}, P s → Aside s t → P t
  reset : P State.reset
  softReset : ∀ s kind cold, P s → P (s.softReset kind cold)
  endTick : ∀ s inp, P s → P (s.endTick inp)
  act : ∀ s t, P s → ActMove s t → P t
  store : ∀ s r w, P s → Storable r w → P (Reg.store r w s)
  line : ∀ s k a, P s → s.lines[k].cfg.enable = true → P (s.lineRaw k a)
  sup : ∀ s low, P s → P (s.supItem low)
  safeIn : ∀ s level, P s → P (s.safeInItem level)
  wdg : ∀ s t, P s → WdgMove s t → P t
  scrub : ∀ s q, P s → s.staging.tableValid = true → ScrubMove s q → P { s with scrub := q }
  raised : ∀ s src c, src = tblSrc ∨ src = clkSrc → P s → P (s.raised src c)
  clearHard : ∀ s src, P s → P (s.clearHard src)
  chan : ∀ s k mark, P s → P (s.chanItem k mark)
  commit : ∀ s scope, P s → P (s.applyArmed scope)
  holdoff : ∀ s, P s → P s.holdoffDown

/-- The state that a reset inside a tick leaves of one with the property. -/
def ResetOf (P : State → Prop) (t : State) : Prop := ∃ u kind cold, P u ∧ t = u.softReset kind cold

namespace Steady

variable {P : State → Prop}

theorem raiseHard (S : Steady P) {s : State} (h : P s) {src : Source} (hs : src = tblSrc ∨ src = clkSrc) (c : Cause)
    (other : Source) : (s.raiseHard src c other).Holds P (ResetOf P) := by
  rw [State.raiseHard_eq]
  have hr := S.raised s src c hs h
  split
  · exact .abandoned ⟨_, _, _, hr, rfl⟩
  · exact .goes hr

theorem wdgItem (S : Steady P) {s : State} (h : P s) : s.wdgItem.Holds P (ResetOf P) := by
  have counted : s.wdg.st ≠ .off → P { s with wdg := { s.wdg with timer := s.wdg.timerNow, fresh := false } } :=
    fun hst => S.wdg s _ h (.counted hst)
  unfold State.wdgItem
  dsimp only
  split
  · exact .goes h
  · rename_i hst
    split
    · exact .goes (S.wdg s _ h (.opens hst))
    · exact .goes (counted (by simp [hst]))
  · rename_i hst
    split
    · exact .goes (S.wdg s _ h (.lapses hst))
    · exact .goes (counted (by simp [hst]))
  · rename_i hst
    split
    · exact .abandoned ⟨_, _, _, counted (by simp [hst]), rfl⟩
    · exact .goes (counted (by simp [hst]))

theorem scrubItem (S : Steady P) {s : State} (h : P s) : s.scrubItem.Holds P (ResetOf P) := by
  have moved : s.staging.tableValid = true → ∀ q, ScrubMove s q → P { s with scrub := q } := fun hv q => S.scrub s q h hv
  unfold State.scrubItem
  split
  · rename_i hv
    split
    · exact .goes (moved hv _ .pace)
    · unfold State.scrubRead
      split
      · exact .goes (moved hv _ (.read ‹_›))
      · unfold State.scrubPassEnd
        dsimp only
        split
        · split
          · exact .goes (S.clearHard _ _ (moved hv _ (.pass _)))
          · exact .goes (moved hv _ (.pass _))
        · split
          · exact .goes (moved hv _ (.pass _))
          · exact S.raiseHard (moved hv _ (.pass _)) (.inl rfl) _ _
  · exact .goes h

theorem handOff (S : Steady P) {s : State} (h : P s) (x : HandOff) : (s.handOff x).Holds P (ResetOf P) := by
  cases x with
  | raise =>
    exact S.raiseHard (s := { s with clk := { s.clk with cond := true, toRef := false } }) (S.aside h rfl) (.inr rfl) _ _
  | clear =>
    exact .goes (S.clearHard { s with clk := { s.clk with cond := false, toRef := true } } clkSrc (S.aside h rfl))

theorem clkItem (S : Steady P) {s : State} (h : P s) : s.clkItem.Holds P (ResetOf P) := by
  have all : ∀ (l : List HandOff) (u : State), P u → (handOffsFrom l u).Holds P (ResetOf P) := by
    intro l
    induction l with
    | nil => exact fun u hu => .goes hu
    | cons x rest ih =>
      intro u hu
      exact (S.handOff (s := { u with clk := { u.clk with handOffs := rest } }) (S.aside hu rfl) x).bind fun t ht => ih t ht
  exact all _ { s with clk := { s.clk with seen := s.clk.mon } } (S.aside h rfl)

theorem actByCode (S : Steady P) {s : State} (h : P s) (code : Byte) (armed : Option Confirmation) (args : Quad) :
    (Machine.actByCode code armed args s).Holds P (ResetOf P) := by
  generalize ho : Machine.actByCode code armed args s = o
  cases ho ▸ actByCode_move code armed args s with
  | done hm => exact .done (S.act s _ h hm)
  | reset hr => exact .reset ⟨s, _, _, h, hr⟩

theorem of_resetOf (S : Steady P) {t : State} (h : ResetOf P t) : P t := by
  obtain ⟨u, kind, cold, hu, rfl⟩ := h
  exact S.softReset u kind cold hu

theorem commitItem (S : Steady P) {s : State} (h : P s) (scope : Scope) (k : Channel) : P (s.commitItem scope k) := by
  unfold State.commitItem
  split
  · exact S.commit s scope h
  · exact h

theorem hardReset (S : Steady P) (s : State) (kind : ResetKind) (sticky : BitVec 4) (pins : Pins) :
    P (s.hardReset kind sticky pins) := S.aside S.reset rfl

theorem pinLow (S : Steady P) {s : State} (h : P s) : P s.pinLow := by
  unfold State.pinLow
  dsimp only
  split
  · exact S.aside h rfl
  · exact S.hardReset s _ _ _

/-- A steady property holds inside ticks and between commands (`Keeps`). -/
theorem keeps (S : Steady P) : Keeps P fun _ => P where
  link _ _ h := S.aside h rfl
  holdWord _ _ h := S.aside h rfl
  pins _ _ h := S.aside h rfl
  clock _ _ h := S.aside h rfl
  por s _ := S.hardReset s _ _ _
  pin _ h _ := S.pinLow h
  beginTick s inp h := S.aside h rfl
  leave _ _ _ h _ := h
  opened _ _ h _ := h
  finish s inp h := S.endTick s inp h
  linkM _ _ _ h := S.aside h rfl
  tickM _ _ _ h := S.aside h rfl
  countError _ h := S.aside h rfl
  act s code armed args h := by
    generalize ho : Machine.actByCode code armed args s = o
    cases ho ▸ S.actByCode h code armed args with
    | done hm => exact .done hm
    | reset hr => exact .reset (S.of_resetOf hr)
  write s tag start count data h := State.applyWrite_keeps (fun _ _ h => S.aside h rfl) S.store h _ _ _ _
  line s k active _ h he := S.line s k active h he
  lineOff _ _ _ h _ := h
  sup s low _ h := S.sup s low h
  safeIn s level _ h := S.safeIn s level h
  wdg s _ h := (S.wdgItem h).mono (fun _ x => x) fun _ x => S.of_resetOf x
  scrub s _ h := (S.scrubItem h).mono (fun _ x => x) fun _ x => S.of_resetOf x
  clk s _ h := (S.clkItem h).mono (fun _ x => x) fun _ x => S.of_resetOf x
  chan s k mark _ h := S.chan s k mark h
  keepMarks _ _ _ h := S.aside h rfl
  commitTable s k _ h := S.commitItem h _ k
  commitChannel s k _ h := S.commitItem h _ k
  outputs _ _ h := S.aside h rfl
  irq _ _ _ h := S.aside h rfl
  holdoff s _ h := S.holdoff s h

/-- Every step keeps a steady property. -/
theorem step (S : Steady P) {s t : State} (h : P s) (e : Machine.step s = .next t) : P t :=
  S.keeps.step (fun _ _ h => S.aside h rfl) h e

end Steady

end Sys2Proof.Machine
end

section
/-! SUPPORT. The relations of single blocks that every step keeps: supervisor, service stack, journal. -/

namespace Sys2Proof.Machine

/-! ### The supervisor -/

theorem SupervisorFits.congr {s t : State} (h : SupervisorFits s) (e : t.wdg = s.wdg) : SupervisorFits t := by
  unfold SupervisorFits
  rw [e]
  exact h

theorem SupervisorFits.softReset (s : State) (kind : ResetKind) (cold : Bool) (h : SupervisorFits s) :
    SupervisorFits (s.softReset kind cold) := by
  obtain ⟨-, how, -⟩ := h
  have e : (s.softReset kind cold).wdg = s.wdg.softReset cold := by simp [State.softResetBlocks]
  unfold SupervisorFits
  rw [e]
  unfold Watchdog.softReset
  split
  · simp
  · split
    · exact ⟨by simp, how, fun _ => rfl⟩
    · exact ⟨by simp, how, by simp⟩

theorem SupervisorFits.raiseLnk {s : State} (h : s.wdg.st = .lapsed) (how : s.wdg.ow ≠ 0) : SupervisorFits s.raiseLnk := by
  refine SupervisorFits.congr (s := { s with wdg := { s.wdg with lnk := some (s.capture lnkSrc 9) } })
    ⟨by simp [h], how, by simp [h]⟩ ?_
  simp [State.raiseLnk]

@[simp] theorem State.clearLnk_wdg (s : State) : s.clearLnk.wdg = { s.wdg with lnk := none } := by
  unfold State.clearLnk
  split <;> simp

/-- Outside LAPSED no LNK contribution is held. -/
theorem SupervisorFits.lnk_none {s : State} (h : SupervisorFits s) (hst : s.wdg.st ≠ .lapsed) : s.wdg.lnk = none := by
  obtain ⟨hl, -, -⟩ := h
  simpa using mt hl.mp hst

/-- A supervisor that runs with no LNK contribution is in order outside LAPSED. -/
theorem SupervisorFits.running {s : State} (hl : s.wdg.lnk = none) (hst : s.wdg.st = .closed ∨ s.wdg.st = .opened)
    (how : s.wdg.ow ≠ 0) : SupervisorFits s := by
  rcases hst with hst | hst <;> exact ⟨by simp [hl, hst], how, by simp [hst]⟩

theorem SupervisorFits.act {s t : State} (h : SupervisorFits s) (hm : ActMove s t) : SupervisorFits t := by
  obtain ⟨-, how, -⟩ := id h
  cases hm with
  | lapse hst => exact .raiseLnk rfl how
  | keptAlive hst => exact .running (h.lnk_none (by simp [hst])) (.inl rfl) how
  | revived hst =>
    refine .running ?_ (.inl ?_) ?_ <;> rw [State.clearLnk_wdg]
    · rfl
    · exact how
  | wdgArm hst => exact .running (h.lnk_none (by simp [hst])) (.inl rfl) how
  | _ => exact h.congr (by simp)

theorem SupervisorFits.wdgMove {s t : State} (h : SupervisorFits s) (hm : WdgMove s t) : SupervisorFits t := by
  obtain ⟨hl, how, ht⟩ := id h
  cases hm with
  | counted hst => exact ⟨hl, how, ht⟩
  | opens hst => exact .running (h.lnk_none (by simp [hst])) (.inr rfl) how
  | lapses hst => exact .raiseLnk rfl how

theorem SupervisorFits.store {s : State} (r : Reg) (w : Word) (h : SupervisorFits s) (hs : Storable r w) :
    SupervisorFits (Reg.store r w s) := by
  cases r with
  | wdgcfg =>
    obtain ⟨hl, -, ht⟩ := h
    exact ⟨hl, hs rfl, ht⟩
  | _ => exact h.congr (by simp [Reg.store])

theorem SupervisorFits.steady : Steady SupervisorFits where
  aside h e := h.congr (by rw [e])
  reset := by simp [SupervisorFits, State.reset]
  softReset s kind cold h := h.softReset s kind cold
  endTick s inp h := h.congr rfl
  act _ _ h hm := h.act hm
  store _ r w h hs := h.store r w hs
  line s k a h _ := h.congr (by simp)
  sup s low h := h.congr (by simp)
  safeIn s level h := h.congr (by simp)
  wdg _ _ h hm := h.wdgMove hm
  scrub _ _ h _ _ := h.congr rfl
  raised s src c _ h := h.congr (by simp [State.raised])
  clearHard s src h := h.congr (by simp)
  chan s k mark h := h.congr (by simp)
  commit s scope h := h.congr (by simp)
  holdoff s h := h.congr rfl

/-! ### Records and occurrences -/

/-- `t` comes from `s` by offered records and by occurrences of sources with an effective level above 0, and by changes of
blocks that hold neither: the journal, the pending states and the levels that an operation can leave. -/
inductive Noted (s : State) : State → Prop where
  | refl : Noted s s
  | offer {t : State} (h : Noted s t) (b : RecBody) : Noted s (t.offer b).1
  | occur {t : State} (h : Noted s t) {src : Source} (hl : t.effLevel src ≠ 0) (q : Option Word) : Noted s (t.occur src q)
  | congr {t u : State} (h : Noted s t) (hj : u.journal = t.journal) (ha : u.arb = t.arb)
      (ht : u.staging.actTab = t.staging.actTab) : Noted s u

theorem State.effLevel_congr {s t : State} (h : t.staging.actTab = s.staging.actTab) (src : Source) :
    t.effLevel src = s.effLevel src := by
  unfold State.effLevel
  rw [h]

namespace Noted

variable {s t : State}

theorem actTab (h : Noted s t) : t.staging.actTab = s.staging.actTab := by
  induction h with
  | refl => rfl
  | offer _ _ ih => simpa using ih
  | occur _ _ _ ih => simpa using ih
  | congr _ _ _ ht ih => exact ht.trans ih

theorem trans {u : State} (h : Noted s t) (g : Noted t u) : Noted s u := by
  induction g with
  | refl => exact h
  | offer _ b ih => exact ih.offer b
  | occur _ hl q ih => exact ih.occur hl q
  | congr _ hj ha ht ih => exact ih.congr hj ha ht

theorem set (hj : t.journal = s.journal) (ha : t.arb = s.arb) (ht : t.staging.actTab = s.staging.actTab) : Noted s t :=
  refl.congr hj ha ht

theorem record (h : Noted s t) (b : RecBody) : Noted s (t.record b) := h.offer b

/-- Records and occurrences leave the service level, the stack, the holdoff and NEST_OFF. -/
theorem arb (h : Noted s t) : t.arb = { s.arb with pend := t.arb.pend } := by
  induction h with
  | refl => rfl
  | offer _ b ih =>
    rw [State.offer_eq]
    simp only
    rw [ih]
  | occur _ _ _ ih =>
    rw [State.occur_eq]
    simp only
    rw [ih]
  | congr _ _ ha _ ih => rw [ha]; exact ih

theorem addCause (h : Noted s t) (c : Cause) (src : Option Source) : Noted s (t.addCause c src) := by
  unfold State.addCause
  split
  · exact record (t := ({ t with causes := c.bits } : State).mapChans fun _ ch => ch.latchCause) (h.congr rfl rfl rfl) _
  · split
    · exact record (t := { t with causes := t.causes ||| c.bits }) (h.congr rfl rfl rfl) _
    · exact h

/-- The last step of an assertion: the occurrence, if the captured level is above 0. -/
theorem occurIf (h : Noted s t) {src : Source} {l : Level} (hl : l ≠ 0 → s.effLevel src ≠ 0) (q : Option Word) :
    Noted s (if l = 0 then t else t.occur src q) := by
  split
  · exact h
  · exact h.occur (by rw [State.effLevel_congr h.actTab]; exact hl ‹_›) q

theorem asserted (h : Noted s t) {src : Source} {x : Contribution} (hl : x.level ≠ 0 → s.effLevel src ≠ 0) (b : Bool) :
    Noted s (t.asserted src x b) := by
  have h1 : Noted s (t.mapChans x.appearsOn) := h.congr rfl rfl rfl
  have h2 : Noted s (if x.cls = .safe then (t.mapChans x.appearsOn).addCause .source (some src)
      else t.mapChans x.appearsOn) := by
    split
    · exact h1.addCause _ _
    · exact h1
  unfold State.asserted
  dsimp only
  cases b with
  | true => exact (h2.offer _).occurIf hl _
  | false => exact h2.occurIf hl _

theorem dropped (h : Noted s t) (src : Source) (x : Contribution) (a b : Bool) : Noted s (t.dropped src x a b) := by
  unfold State.dropped
  split
  · exact h.record _
  · exact h

theorem clearHard (h : Noted s t) (src : Source) : Noted s (t.clearHard src) := h.record _

end Noted

/-! ### What the operations note -/

@[simp] theorem lineSrc_val (k : LineNo) : (lineSrc k).val = k.val := rfl

theorem State.effLevel_table (s : State) {src : Source} (h : src.val < 18) :
    s.effLevel src = levelOf s.staging.actTab[src].level := if_pos h

theorem State.effLevel_line (s : State) (k : LineNo) :
    s.effLevel (lineSrc k) = levelOf s.staging.actTab[lineSrc k].level := s.effLevel_table (by rw [lineSrc_val]; omega)

@[simp] theorem levelOf_eq_zero {l : Fin 8} : levelOf l = 0 ↔ l = 0 := by revert l; decide

namespace Noted

variable {s t : State}

theorem assertLine (k : LineNo) : Noted s (s.assertLine k) := by
  unfold State.assertLine
  refine asserted ?_ (fun h => ?_) _
  · exact set rfl rfl rfl
  · rw [State.effLevel_line]
    exact h

theorem dropLine (k : LineNo) (a b : Bool) : Noted s (s.dropLine k a b) := by
  unfold State.dropLine
  dsimp only
  split
  · refine dropped ?_ _ _ _ _
    exact set rfl rfl rfl
  · exact set rfl rfl rfl

theorem lineRaw (k : LineNo) (a : Bool) : Noted s (s.lineRaw k a) := by
  unfold State.lineRaw
  dsimp only
  split
  · exact assertLine k
  · exact dropLine k _ _
  · exact set rfl rfl rfl
  · exact set rfl rfl rfl

theorem supItem (low : Bool) : Noted s (s.supItem low) := by
  unfold State.supItem
  split
  · unfold State.assertSup
    refine asserted ?_ (fun _ => by simp [State.effLevel, supSrc]) _
    exact set rfl rfl rfl
  · unfold State.clearSup
    dsimp only
    split
    · refine dropped ?_ _ _ _ _
      exact set rfl rfl rfl
    · exact set rfl rfl rfl
  · exact set rfl rfl rfl

theorem safeInItem (level : Bool) : Noted s (s.safeInItem level) := by
  unfold State.safeInItem
  split
  · unfold State.activateSafeIn
    refine addCause ?_ _ _
    exact set rfl rfl rfl
  · exact set rfl rfl rfl

theorem raiseLnk : Noted s s.raiseLnk := by
  unfold State.raiseLnk
  refine asserted ?_ (fun _ => by simp [State.effLevel, lnkSrc]) _
  exact set rfl rfl rfl

theorem clearLnk : Noted s s.clearLnk := by
  unfold State.clearLnk
  dsimp only
  split
  · refine dropped ?_ _ _ _ _
    exact set rfl rfl rfl
  · exact set rfl rfl rfl

theorem raised {src : Source} (hs : src = tblSrc ∨ src = clkSrc) (c : Cause) : Noted s (s.raised src c) := by
  refine occur (offer (addCause refl c none) _) ?_ _
  rcases hs with rfl | rfl <;> simp [State.effLevel, tblSrc, clkSrc]

theorem recordRelease (h : Noted s t) (k : Channel) (persist : Byte) : Noted s (t.recordRelease k persist) := by
  unfold State.recordRelease
  split
  · exact h.record _
  · exact h

theorem escalate (h : Noted s t) (k : Channel) (why : EscReason) : Noted s (t.escalate k why) :=
  record (t := t.setChan k _) (h.congr rfl rfl rfl) _

theorem markCycle (h : Noted s t) (k : Channel) : Noted s (t.markCycle k) := by
  unfold State.markCycle
  dsimp only
  split
  · split
    · refine escalate ?_ _ _
      exact h.congr rfl rfl rfl
    · exact h.congr rfl rfl rfl
  · refine recordRelease ?_ _ _
    exact h.congr rfl rfl rfl

theorem markClearing (h : Noted s t) (k : Channel) : Noted s (t.markClearing k) := by
  unfold State.markClearing
  refine recordRelease ?_ _ _
  exact h.congr rfl rfl rfl

theorem markChan (h : Noted s t) (k : Channel) : Noted s (t.markChan k) := by
  have h1 : Noted s (t.setChan k { t.chans[k] with pulse := false, markSeen := true }) := h.congr rfl rfl rfl
  unfold State.markChan
  dsimp only
  split
  · exact h1
  · exact h1.markCycle k
  · exact h1
  · exact h1.markClearing k

theorem starveChan (h : Noted s t) (k : Channel) : Noted s (t.starveChan k) := by
  have starve : ∀ u, Noted s u → Noted s (if u.starved k then u.escalate k .starved else u) := by
    intro u hu
    split
    · exact hu.escalate _ _
    · exact hu
  refine starve _ ?_
  split
  · exact h.congr rfl rfl rfl
  · exact h

theorem chanItem (k : Channel) (mark : Bool) : Noted s (s.chanItem k mark) := by
  refine starveChan ?_ k
  cases mark
  · exact refl
  · exact refl.markChan k

theorem forceTrip (mask : ChannelMask) (kind : TripKind) : Noted s (s.forceTrip mask kind) := by
  have h1 : Noted s (s.mapChans fun k c => if mask.getLsbD k.val then kind.force c else c) := set rfl rfl rfl
  unfold State.forceTrip
  dsimp only
  have hst : s.staging.actTab[hst].level ≠ 0 → s.effLevel hst ≠ 0 := fun h => by
    rw [s.effLevel_table (by decide)]
    simpa using h
  have occurs : ∀ {u : State} (q : Option Word), Noted s u →
      Noted s (if s.staging.actTab[Machine.hst].level = 0 then u else u.occur Machine.hst q) := by
    intro u q hu
    split
    · exact hu
    · exact hu.occur (by rw [State.effLevel_congr hu.actTab]; exact hst ‹_›) q
  cases hr : s.staging.actTab[Machine.hst].record with
  | true => exact occurs _ (h1.offer _)
  | false => exact occurs _ h1

theorem exitHold : Noted s s.exitHold := by
  unfold State.exitHold
  refine record ?_ _
  exact set rfl rfl rfl

theorem writeLineMode (k : LineNo) (w : Word) : Noted s (s.writeLineMode k w) := by
  unfold State.writeLineMode
  dsimp only
  split
  · split
    · exact set rfl rfl rfl
    · exact set rfl rfl rfl
  · split
    · exact set rfl rfl rfl
    · exact set rfl rfl rfl
    · exact trans (set (t := s.setLine k _) rfl rfl rfl) (dropLine k _ _)
    · exact trans (set (t := s.setLine k _) rfl rfl rfl) (dropLine k _ _)

theorem wdgMove (hm : WdgMove s t) : Noted s t := by
  cases hm with
  | counted _ => exact set rfl rfl rfl
  | opens _ => exact set rfl rfl rfl
  | lapses _ =>
    refine trans ?_ raiseLnk
    exact set rfl rfl rfl

theorem softReset (kind : ResetKind) (cold : Bool) : Noted (s.softResetBlocks kind cold) (s.softReset kind cold) := by
  have recomputed : ∀ u v : State, ∀ b, Noted u v → Noted u (v.recomputeOutputs.recomputeIrq b) :=
    fun _ _ _ h => h.congr rfl rfl rfl
  unfold State.softReset
  dsimp only
  refine recomputed _ _ _ ?_
  split
  · exact (refl.record _).record _
  · exact refl.record _

end Noted

end Sys2Proof.Machine
end

section
/-! SUPPORT. What a commit leaves (R45, R50, R52, R53): the discards of a TABLE commit source by source, the copy, the record. -/

namespace Sys2Proof.Machine

/-- A saturating counter that rises one by one is the saturated sum. -/
theorem satInc_toNat {w : Nat} (x : BitVec w) : (satInc x).toNat = min (2 ^ w - 1) (x.toNat + 1) := by
  unfold satInc
  have hx := x.isLt
  split
  · rename_i h
    simp [h]
  · rename_i h
    have hne : x.toNat ≠ 2 ^ w - 1 := fun e => h (BitVec.eq_of_toNat_eq (by simpa using e))
    have hw : 0 < w := by
      by_contra hc
      have h0 : w = 0 := by omega
      subst h0
      exact hne (by omega)
    change (x + 1#w).toNat = _
    rw [BitVec.toNat_add, BitVec.toNat_one hw, Nat.mod_eq_of_lt (by omega)]
    omega

variable (s : State)

/-! ### Discards -/

/-- What the discards of a list of sources leave of one source (R52). -/
def pendAfterDiscard (level : Source → Level) (l : List Source) (src : Source) (p : Option Pend) : Option Pend :=
  if src ∈ l ∧ level src = 0 then none else p

theorem State.discardOne_eq (src : Source) :
    s.discardOne src = { s with
      arb := { s.arb with pend := (s.discardOne src).arb.pend }
      counters := { s.counters with cancel := (s.discardOne src).counters.cancel } } := by
  unfold State.discardOne
  split <;> rfl

theorem State.discardOne_pend (src a : Source) :
    (s.discardOne src).arb.pend[a] = if a = src ∧ s.effLevel a = 0 then none else s.arb.pend[a] := by
  unfold State.discardOne
  split
  · rename_i h
    by_cases e : a = src
    · subst e
      have h0 : s.effLevel a = 0 := by simpa using (Bool.and_eq_true _ _).mp h |>.2
      simp [h0]
    · simp [e, State.setPend_get_ne _ _ e]
  · rename_i h
    split
    · rename_i ha
      obtain ⟨rfl, h0⟩ := ha
      simpa [State.isPending, h0] using h
    · rfl

theorem State.discardOne_cancel (src : Source) :
    (s.discardOne src).counters.cancel =
      if s.isPending src && s.effLevel src == 0 then satInc s.counters.cancel else s.counters.cancel := by
  unfold State.discardOne
  split <;> rfl

theorem State.discardAll_eq (l : List Source) : ∀ s : State,
    l.foldl State.discardOne s = { s with
      arb := { s.arb with pend := (l.foldl State.discardOne s).arb.pend }
      counters := { s.counters with cancel := (l.foldl State.discardOne s).counters.cancel } } := by
  induction l with
  | nil => exact fun _ => rfl
  | cons src rest ih =>
    intro s
    rw [List.foldl_cons, ih, s.discardOne_eq src]

theorem State.discardAll_pend (l : List Source) (a : Source) : ∀ s : State,
    (l.foldl State.discardOne s).arb.pend[a] = if a ∈ l ∧ s.effLevel a = 0 then none else s.arb.pend[a] := by
  induction l with
  | nil => exact fun s => by simp
  | cons src rest ih =>
    intro s
    have hl : (s.discardOne src).effLevel a = s.effLevel a := State.effLevel_congr (by simp) a
    rw [List.foldl_cons, ih, hl, State.discardOne_pend]
    simp only [List.mem_cons]
    grind

/-- Each discarded source is counted once (R52, R142). -/
theorem State.discardAll_cancel (l : List Source) (hn : l.Nodup) : ∀ s : State,
    (l.foldl State.discardOne s).counters.cancel.toNat =
      min 0xFFFF (s.counters.cancel.toNat + (l.filter fun src => s.isPending src && s.effLevel src == 0).length) := by
  induction l with
  | nil => exact fun s => by have := s.counters.cancel.isLt; simp; omega
  | cons src rest ih =>
    intro s
    obtain ⟨hsrc, hrest⟩ := List.nodup_cons.mp hn
    have hf : (rest.filter fun a => (s.discardOne src).isPending a && (s.discardOne src).effLevel a == 0) =
        rest.filter fun a => s.isPending a && s.effLevel a == 0 := by
      refine List.filter_congr fun a ha => ?_
      have hne : a ≠ src := fun e => hsrc (e ▸ ha)
      have hp : (s.discardOne src).isPending a = s.isPending a := by
        unfold State.isPending
        rw [State.discardOne_pend, if_neg fun h => hne h.1]
      rw [hp, State.effLevel_congr (s := s) (by simp) a]
    rw [List.foldl_cons, ih hrest, hf, State.discardOne_cancel, List.filter_cons]
    split
    · rw [satInc_toNat, List.length_cons]
      omega
    · rfl

/-! ### Commits -/

/-- A TABLE commit before its discards: table-valid, the reference CRC, the scrubber restarted (R50). -/
def State.restarted : State := { s with
  staging := { s.staging with tableValid := true }
  scrub := { s.scrub with position := 0, pacing := 0, acc := 0xFFFF, ref := crc16 (tableWords s.staging.actTab) } }

theorem State.tableCommitted_fold : s.tableCommitted = tableSources.foldl State.discardOne s.restarted := rfl

theorem mem_tableSources {src : Source} : src ∈ tableSources ↔ src.val < 18 := by revert src; decide

theorem State.effLevel_table_zero {src : Source} (h : src.val < 18) :
    s.effLevel src = 0 ↔ s.staging.actTab[src].level = 0 := by rw [s.effLevel_table h, levelOf_eq_zero]

/-- A TABLE commit discards the pending states of the table's sources that have level 0 now (R52). -/
theorem State.tableCommitted_pend (src : Source) :
    s.tableCommitted.arb.pend[src] = pendAfterTable s.staging.actTab src s.arb.pend[src] := by
  rw [State.tableCommitted_fold, State.discardAll_pend]
  unfold pendAfterTable
  by_cases hs : src.val < 18
  · simp only [mem_tableSources, hs, true_and, State.effLevel_table_zero _ hs]
    rfl
  · simp only [mem_tableSources, hs, false_and, if_false]
    rfl

theorem State.tableCommitted_cancel : s.tableCommitted.counters.cancel =
    BitVec.ofNat 16 (min 0xFFFF (s.counters.cancel.toNat + discards s.staging.actTab s)) := by
  have hd : (tableSources.filter fun src => s.restarted.isPending src && s.restarted.effLevel src == 0) =
      tableSources.filter fun src => s.isPending src && s.staging.actTab[src].level == 0 := by
    refine List.filter_congr fun src hs => ?_
    have hl := s.restarted.effLevel_table_zero (mem_tableSources.mp hs)
    change (s.isPending src && _) = _
    congr 1
    rw [Bool.eq_iff_iff, beq_iff_eq, beq_iff_eq]
    exact hl
  have hc := State.discardAll_cancel tableSources (by decide) s.restarted
  rw [hd, ← State.tableCommitted_fold] at hc
  refine BitVec.eq_of_toNat_eq (hc.trans ?_)
  rw [BitVec.toNat_ofNat, Nat.mod_eq_of_lt (by omega)]
  rfl

theorem State.tableCommitted_eq :
    s.tableCommitted = { s.restarted with
      arb := { s.arb with pend := s.tableCommitted.arb.pend }
      counters := { s.counters with
        cancel := BitVec.ofNat 16 (min 0xFFFF (s.counters.cancel.toNat + discards s.staging.actTab s)) } } := by
  rw [← State.tableCommitted_cancel, State.tableCommitted_fold]
  exact State.discardAll_eq tableSources s.restarted

/-- What a TABLE commit leaves (R45, R50, R52). -/
theorem State.applyCommit_table : TableCommitted s (s.applyCommit .table) := by
  have ht : (s.copyScope .table).tableCommitted.time = s.time := by simp
  have hr : s.applyCommit .table =
      (s.copyScope .table).tableCommitted.record ⟨.commitApplied .table, none, 0, none, s.time.tstamp⟩ := by
    rw [← ht]
    unfold State.applyCommit State.plainBody
    simp only
  generalize hu : (s.copyScope .table).tableCommitted = u at hr ht
  have hj : u.journal = s.journal := by rw [← hu]; simp
  have he := (s.copyScope .table).tableCommitted_eq
  have hp := (s.copyScope .table).tableCommitted_pend
  rw [hu] at he
  simp only [hu] at hp
  refine ⟨?_, fun src h => ?_⟩
  · rw [hr, State.record_eq, hj]
    generalize (u.record _).arb.pend = p
    rw [he]
    rfl
  · rw [hr]
    exact (State.record_pend_ne _ _ h).trans (hp src)

/-- What a CHANNEL commit leaves (R45, R53). -/
theorem State.applyCommit_channel (k : Channel) : ChannelCommitted k s (s.applyCommit (.channel k)) := by
  refine ⟨State.record_eq _ _, fun src h => State.record_pend_ne _ _ h⟩

/-- A commit leaves the service level, the stack, the holdoff and NEST_OFF. -/
theorem State.applyCommit_arb (scope : Scope) :
    (s.applyCommit scope).arb = { s.arb with pend := (s.applyCommit scope).arb.pend } := by
  cases scope with
  | table =>
    obtain ⟨h, -⟩ := s.applyCommit_table
    rw [h]
  | channel k =>
    obtain ⟨h, -⟩ := s.applyCommit_channel k
    rw [h]

theorem State.applyArmed_arb (scope : Scope) :
    (s.applyArmed scope).arb = { s.arb with pend := (s.applyArmed scope).arb.pend } := by
  have e := (s.disarm scope).applyCommit_arb scope
  rwa [show (s.disarm scope).arb = s.arb by simp] at e

/-- A commit's one record (R45). -/
theorem State.applyCommit_journal (scope : Scope) :
    (s.applyCommit scope).journal =
      (s.journal.offer ⟨.commitApplied scope, none, 0, none, s.time.tstamp⟩).journal := by
  cases scope with
  | table =>
    obtain ⟨h, -⟩ := s.applyCommit_table
    rw [h]
  | channel k =>
    obtain ⟨h, -⟩ := s.applyCommit_channel k
    rw [h]

end Sys2Proof.Machine
end

section
/-! SUPPORT. The relations of the service stack, of the journal and of the pending states that every step keeps. -/

namespace Sys2Proof.Machine

/-! ### The service stack -/

theorem StackFits.congr {s t : State} (h : StackFits s) (e : t.arb = { s.arb with pend := t.arb.pend }) : StackFits t := by
  unfold StackFits
  rw [e]
  exact h

/-- An empty stack with a user level. -/
theorem StackFits.empty {s : State} (hsl : s.arb.sl.val < 8) (hst : s.arb.stack = []) : StackFits s := by
  unfold StackFits
  rw [hst]
  exact ⟨Nat.zero_le _, hsl⟩

/-- A source with an effective level of 8 or above is critical (R129, Table 0-1). -/
theorem State.critical_of_effLevel {s : State} {src : Source} (h : 8 ≤ (s.effLevel src).val) : isCritical src = true := by
  unfold State.effLevel at h
  split at h
  · have := s.staging.actTab[src].level.isLt
    simp only [levelOf] at h
    omega
  · simpa [isCritical] using ‹¬ src.val < 18›

theorem handOverLevel_le {nestOff : Bool} {level : Level} (h : 8 ≤ (handOverLevel nestOff level).val) : 8 ≤ level.val := by
  unfold handOverLevel at h
  split at h
  · exact absurd h (by decide)
  · exact h

theorem StackFits.act {s t : State} (h : StackFits s) (hm : ActMove s t) : StackFits t := by
  obtain ⟨hlen, hlev⟩ := id h
  cases hm with
  | handOver hw hp hl => exact ⟨hl, fun h8 => State.critical_of_effLevel (handOverLevel_le h8), hlev⟩
  | pop hst =>
    rw [hst] at hlen hlev
    obtain ⟨-, hrest⟩ := hlev
    exact ⟨Nat.le_of_succ_le hlen, hrest⟩
  | setLevel hn hs =>
    refine ⟨hlen, ?_⟩
    change LevelsFit _ s.arb.stack
    cases hst : s.arb.stack with
    | nil => exact hn
    | cons e rest =>
      rw [hst] at hlev
      obtain ⟨-, hrest⟩ := hlev
      exact ⟨fun h8 => absurd hn (Nat.not_lt.mpr h8), hrest⟩
  | commit scope => exact h.congr (s.applyCommit_arb scope)
  | arm scope m => cases scope <;> exact h
  | disarm scope => cases scope <;> exact h
  | forceTrip mask t => exact h.congr (Noted.forceTrip mask t).arb
  | forceSafe => exact h.congr (Noted.refl.addCause _ _).arb
  | exitSafe => exact h.congr Noted.exitHold.arb
  | lapse _ => exact h.congr (s := { s with wdg := s.wdg.enterLapsed true }) Noted.raiseLnk.arb
  | revived _ => exact h.congr (s := { s with wdg := s.wdg.accepted }) Noted.clearLnk.arb
  | _ => exact h

theorem StackFits.store {s : State} (r : Reg) (w : Word) (h : StackFits s) : StackFits (Reg.store r w s) := by
  cases r with
  | linemode k => exact h.congr (Noted.writeLineMode k w).arb
  | _ => exact h

theorem StackFits.steady : Steady StackFits where
  aside h e := h.congr (by rw [e])
  reset := .empty (by decide) rfl
  softReset s kind cold _ := .empty (by simp [State.softResetBlocks, Arbiter.softReset])
    (by simp [State.softResetBlocks, Arbiter.softReset])
  endTick _ _ h := h
  act _ _ h hm := h.act hm
  store _ r w h _ := h.store r w
  line _ k a h _ := h.congr (Noted.lineRaw k a).arb
  sup _ low h := h.congr (Noted.supItem low).arb
  safeIn _ level h := h.congr (Noted.safeInItem level).arb
  wdg _ _ h hm := h.congr (Noted.wdgMove hm).arb
  scrub _ _ h _ _ := h
  raised _ _ c hs h := h.congr (Noted.raised hs c).arb
  clearHard _ src h := h.congr (Noted.refl.clearHard src).arb
  chan _ k mark h := h.congr (Noted.chanItem k mark).arb
  commit s scope h := h.congr (s.applyArmed_arb scope)
  holdoff _ h := h

/-! ### The journal -/

/-- The queue holds at most 32 records and at most 28 unprotected ones (R110). -/
def QueueFits (q : List Rec) : Prop :=
  q.length ≤ Config.journalSlots ∧ (unprotected q).length ≤ Config.journalReserveAt

theorem JournalFits.congr {s t : State} (h : JournalFits s) (e : t.journal.queue = s.journal.queue) : JournalFits t := by
  unfold JournalFits
  rw [e]
  exact h

theorem unprotected_append (a b : List Rec) : unprotected (a ++ b) = unprotected a ++ unprotected b := List.filter_append ..

/-- The insertion policy keeps the queue within its slots (R116, R117). -/
theorem Journal.offer_fits (j : Journal) (b : RecBody) (h : QueueFits j.queue) : QueueFits (j.offer b).journal.queue := by
  obtain ⟨hl, hu⟩ := id h
  have hsub : (unprotected j.queue).length ≤ j.queue.length := List.length_filter_le ..
  unfold Journal.offer
  dsimp only
  split
  · rename_i hb
    have hr : unprotected [⟨j.nextSeq, j.lost, b⟩] = [] := by simp [unprotected, hb]
    split
    · exact ⟨by simpa [Journal.append] using ‹_›, by simpa [Journal.append, unprotected_append, hr] using hu⟩
    · split
      · obtain ⟨before, r, after, hq, rfl, -, hp⟩ := evictOldest_some ‹_›
        have h1 : unprotected [r] = [r] := by simp [unprotected, hp]
        have e : j.queue = before ++ [r] ++ after := by simp [hq]
        rw [e] at hl hu
        simp only [unprotected_append, h1, List.length_append, List.length_singleton] at hl hu
        simp only [QueueFits, Journal.append, unprotected_append, hr, List.append_nil, List.length_append,
          List.length_singleton]
        omega
      · exact h
  · split
    · have hb : (unprotected [⟨j.nextSeq, j.lost, b⟩]).length ≤ 1 := List.length_filter_le ..
      have hc : Config.journalReserveAt < Config.journalSlots := by decide
      simp only [QueueFits, Journal.append, unprotected_append, List.length_append, List.length_singleton]
      omega
    · exact h

/-- Records and occurrences keep the queue within its slots. -/
theorem JournalFits.noted {s t : State} (h : JournalFits s) (n : Noted s t) : JournalFits t := by
  induction n with
  | refl => exact h
  | offer _ b ih =>
    unfold JournalFits
    rw [State.offer_journal]
    exact Journal.offer_fits _ b ih
  | occur _ _ _ ih => exact ih.congr (by simp)
  | congr _ hj _ _ ih => exact ih.congr (by rw [hj])

theorem JournalFits.applyCommit {s : State} (h : JournalFits s) (scope : Scope) : JournalFits (s.applyCommit scope) := by
  unfold JournalFits
  rw [State.applyCommit_journal]
  exact Journal.offer_fits _ _ h

theorem JournalFits.act {s t : State} (h : JournalFits s) (hm : ActMove s t) : JournalFits t := by
  cases hm with
  | journalPop hq =>
    obtain ⟨hl, hu⟩ := h
    rw [hq] at hl hu
    refine ⟨Nat.le_of_succ_le hl, Nat.le_trans ?_ hu⟩
    exact ((List.sublist_cons_self _ _).filter _).length_le
  | commit scope => exact h.applyCommit scope
  | arm scope m => cases scope <;> exact h
  | disarm scope => cases scope <;> exact h
  | forceTrip mask t => exact h.noted (.forceTrip mask t)
  | forceSafe => exact h.noted (Noted.refl.addCause _ _)
  | exitSafe => exact h.noted .exitHold
  | lapse _ => exact JournalFits.noted (s := { s with wdg := s.wdg.enterLapsed true }) h .raiseLnk
  | revived _ => exact JournalFits.noted (s := { s with wdg := s.wdg.accepted }) h .clearLnk
  | _ => exact h

theorem JournalFits.softReset {s : State} (h : JournalFits s) (kind : ResetKind) (cold : Bool) :
    JournalFits (s.softReset kind cold) :=
  JournalFits.noted (s := s.softResetBlocks kind cold) h (.softReset kind cold)

theorem JournalFits.steady : Steady JournalFits where
  aside h e := h.congr (by rw [e])
  reset := ⟨Nat.zero_le _, Nat.zero_le _⟩
  softReset _ kind cold h := h.softReset kind cold
  endTick _ _ h := h
  act _ _ h hm := h.act hm
  store s r w h _ := by
    cases r with
    | linemode k => exact h.noted (.writeLineMode k w)
    | _ => exact h
  line _ k a h _ := h.noted (.lineRaw k a)
  sup _ low h := h.noted (.supItem low)
  safeIn _ level h := h.noted (.safeInItem level)
  wdg _ _ h hm := h.noted (.wdgMove hm)
  scrub _ _ h _ _ := h
  raised _ _ c hs h := h.noted (.raised hs c)
  clearHard _ src h := h.noted (Noted.refl.clearHard src)
  chan _ k mark h := h.noted (.chanItem k mark)
  commit s scope h := JournalFits.applyCommit (s := s.disarm scope) (by cases scope <;> exact h) scope
  holdoff _ h := h

/-! ### Pending states -/

theorem PendingNotifies.congr {s t : State} (h : PendingNotifies s) (hp : t.arb.pend = s.arb.pend)
    (ht : t.staging.actTab = s.staging.actTab) : PendingNotifies t := by
  intro src hs
  rw [State.effLevel_congr ht]
  exact h src (by simpa [State.isPending, hp] using hs)

/-- Records and occurrences make no source of level 0 pending (R123, R128). -/
theorem PendingNotifies.noted {s t : State} (h : PendingNotifies s) (n : Noted s t) : PendingNotifies t := by
  induction n with
  | refl => exact h
  | @offer t _ b ih =>
    intro src hs
    rw [State.effLevel_congr (s := t) (by simp)]
    rcases t.offer_pending b src with e | ⟨-, rfl, hl⟩
    · exact ih src (e ▸ hs)
    · exact Nat.pos_of_ne_zero fun e => hl (Fin.ext e)
  | @occur t _ a hl q ih =>
    intro src hs
    rw [State.effLevel_congr (s := t) (by simp)]
    rw [State.occur_pending] at hs
    by_cases e : src = a
    · rw [e]
      exact Nat.pos_of_ne_zero fun e => hl (Fin.ext e)
    · exact ih src (by simpa [e] using hs)
  | congr _ _ ha ht ih => exact ih.congr (by rw [ha]) ht

theorem PendingNotifies.cleared {s t : State} (h : PendingNotifies s) (ht : t.staging.actTab = s.staging.actTab)
    (hp : ∀ src : Source, t.arb.pend[src] = none ∨ t.arb.pend[src] = s.arb.pend[src]) : PendingNotifies t := by
  intro src hs
  rw [State.effLevel_congr ht]
  unfold State.isPending at hs
  rcases hp src with e | e
  · simp [e] at hs
  · rw [e] at hs
    exact h src hs

theorem PendingNotifies.tableCommitted (s : State) : PendingNotifies s.tableCommitted := by
  intro src hs
  rw [State.isPending, State.tableCommitted_pend] at hs
  unfold pendAfterTable at hs
  have ht : s.tableCommitted.staging.actTab = s.staging.actTab := by rw [State.tableCommitted_eq]; rfl
  refine Nat.pos_of_ne_zero fun e => ?_
  have e : s.effLevel src = 0 := by rw [← State.effLevel_congr ht]; exact Fin.ext e
  by_cases h18 : src.val < 18
  · rw [State.effLevel_table_zero _ h18] at e
    rw [if_pos ⟨h18, e⟩] at hs
    exact absurd hs (by decide)
  · have hv := congrArg Fin.val e
    simp only [State.effLevel, h18, if_false] at hv
    have : (0 : Level).val = 0 := rfl
    omega

theorem PendingNotifies.applyCommit {s : State} (h : PendingNotifies s) (scope : Scope) :
    PendingNotifies (s.applyCommit scope) := by
  cases scope with
  | table => exact (PendingNotifies.tableCommitted (s.copyScope .table)).noted (Noted.refl.record _)
  | channel k => exact PendingNotifies.noted (s := s.copyScope (.channel k)) h (Noted.refl.record _)

theorem setPend_cleared (s : State) (a src : Source) :
    (s.setPend a none).arb.pend[src] = none ∨ (s.setPend a none).arb.pend[src] = s.arb.pend[src] := by
  by_cases e : src = a
  · subst e
    exact .inl (by simp)
  · exact .inr (State.setPend_get_ne _ _ e)

theorem PendingNotifies.act {s t : State} (h : PendingNotifies s) (hm : ActMove s t) : PendingNotifies t := by
  cases hm with
  | @handOver src _ _ _ _ => exact h.cleared rfl fun a => setPend_cleared s src a
  | cancel src => exact h.cleared rfl fun a => setPend_cleared s src a
  | commit scope => exact h.applyCommit scope
  | arm scope m => cases scope <;> exact h
  | disarm scope => cases scope <;> exact h
  | forceTrip mask t => exact h.noted (.forceTrip mask t)
  | forceSafe => exact h.noted (Noted.refl.addCause _ _)
  | exitSafe => exact h.noted .exitHold
  | lapse _ => exact PendingNotifies.noted (s := { s with wdg := s.wdg.enterLapsed true }) h .raiseLnk
  | revived _ => exact PendingNotifies.noted (s := { s with wdg := s.wdg.accepted }) h .clearLnk
  | _ => exact h

theorem PendingNotifies.softReset (s : State) (kind : ResetKind) (cold : Bool) : PendingNotifies (s.softReset kind cold) := by
  have h : PendingNotifies (s.softResetBlocks kind cold) := by
    intro src hs
    simp [State.isPending, State.softResetBlocks, Arbiter.softReset] at hs
  exact h.noted (.softReset kind cold)

theorem PendingNotifies.steady : Steady PendingNotifies where
  aside h e := h.congr (by rw [e]) (by rw [e])
  reset := by
    intro src hs
    simp [State.isPending, State.reset] at hs
  softReset s kind cold _ := .softReset s kind cold
  endTick _ _ h := h
  act _ _ h hm := h.act hm
  store s r w h _ := by
    cases r with
    | linemode k => exact h.noted (.writeLineMode k w)
    | _ => exact h
  line _ k a h _ := h.noted (.lineRaw k a)
  sup _ low h := h.noted (.supItem low)
  safeIn _ level h := h.noted (.safeInItem level)
  wdg _ _ h hm := h.noted (.wdgMove hm)
  scrub _ _ h _ _ := h
  raised _ _ c hs h := h.noted (.raised hs c)
  clearHard _ src h := h.noted (Noted.refl.clearHard src)
  chan _ k mark h := h.noted (.chanItem k mark)
  commit s scope h := PendingNotifies.applyCommit (s := s.disarm scope) (by cases scope <;> exact h) scope
  holdoff _ h := h

end Sys2Proof.Machine

open Sys2Proof Sys2Proof.Machine

/-- Settles O5: each record goes through the insertion policy, which keeps the queue within its slots. -/
theorem journalStaysWithinItsSlots : Obligations.JournalStaysWithinItsSlots := fun _ _ h e => JournalFits.steady.step h e

/-- Settles O6: a hand-over is the only entry, and a level of 8 or above comes from its source alone. -/
theorem serviceStackStaysFit : Obligations.ServiceStackStaysFit := fun _ _ h e => StackFits.steady.step h e

/-- Settles O7: a source of level 0 never occurs, and the commit that gives level 0 discards. -/
theorem pendingSourcesKeepALevel : Obligations.PendingSourcesKeepALevel := fun _ _ h e => PendingNotifies.steady.step h e

/-- Settles O8: the supervisor's item and the actions on it are the only moves on its block, and LNK rises and falls with
LAPSED in each. -/
theorem supervisorStaysFit : Obligations.SupervisorStaysFit := fun _ _ h e => SupervisorFits.steady.step h e

end

section
/-! SUPPORT. What phase 3 makes of one channel, as a function of the channel, its block and the presence of a held cycle cause,
with the record that goes with it (R67-R75). -/

namespace Sys2Proof.Machine

/-! ### One channel -/

/-- The persist count after one more survived mark reaches a nonzero EC (R69). -/
def Chan.reaches (c : Chan) (cfg : ChanCfg) : Bool := cfg.ec != 0 && decide (cfg.ec ≤ satInc c.persist)

/-- A channel after its mark (R67-R70). -/
def Chan.marked (c : Chan) (cfg : ChanCfg) (present : Bool) : Chan :=
  let m := { c with pulse := false, markSeen := true }
  match c.st with
  | .normal => m
  | .cycle =>
    if present then
      if c.reaches cfg then { m with persist := satInc c.persist }.latchCause
      else { m with persist := satInc c.persist, timer := 0 }
    else { m with st := .normal, persist := 0, timer := 0 }
  | .latched => m
  | .clearing => { (if present then m.enterCycle else { m with st := .normal }) with ind := .none }

/-- The record of a mark (R74, R75). -/
def Chan.markRecord (c : Chan) (cfg : ChanCfg) (present : Bool) : Option RecKind :=
  match c.st with
  | .normal => none
  | .cycle =>
    if present then if c.reaches cfg then some (.escalate .persist) else none
    else if cfg.recordReleases then some (.release c.persist) else none
  | .latched => none
  | .clearing => if cfg.recordReleases then some (.release 0) else none

/-- A channel's starvation timer after the check (R71). -/
def Chan.timed (c : Chan) : Chan := if c.starving then { c with timer := satInc c.timer } else c

/-- The timer has reached MT × 16 with MT above 0 (R72). -/
def Chan.starved (c : Chan) (cfg : ChanCfg) : Bool :=
  decide (0 < cfg.mt.toNat) && c.st == .cycle && decide (cfg.mt.toNat * Config.timeoutUnit ≤ c.timer.toNat)

/-- A channel after its starvation check (R71, R72). -/
def Chan.starveEnd (c : Chan) (cfg : ChanCfg) : Chan := if c.timed.starved cfg then c.timed.latchCause else c.timed

/-- The record of a starvation check (R75). -/
def Chan.starveRecord (c : Chan) (cfg : ChanCfg) : Option RecKind :=
  if c.timed.starved cfg then some (.escalate .starved) else none

/-- A record that names channel k alone, if there is one. -/
def State.noteOn (s : State) (k : Channel) (r : Option RecKind) : State :=
  match r with
  | some kind => s.record (s.plainBody kind none (maskOf k))
  | none => s

variable (s : State)

@[simp] theorem State.setChan_setChan (k : Channel) (a b : Chan) : (s.setChan k a).setChan k b = s.setChan k b := by
  simp [State.setChan, Vector.set_set]

@[simp] theorem State.setChan_self (k : Channel) : s.setChan k s.chans[k] = s := by simp [State.setChan]

theorem State.heldOn_congr {s t : State} (hl : t.lines = s.lines) (hs : t.sup = s.sup) (hw : t.wdg.lnk = s.wdg.lnk)
    (c : TripClass) (k : Channel) : t.heldOn c k = s.heldOn c k := by
  unfold State.heldOn State.held
  rw [hl, hs, hw]

/-- The mark of channel k changes channel k alone and makes at most one record (R67-R70, R74, R75). -/
theorem State.markChan_eq (k : Channel) :
    s.markChan k = (s.setChan k (s.chans[k].marked s.staging.actCh[k] (s.heldOn .cycle k))).noteOn k
      (s.chans[k].markRecord s.staging.actCh[k] (s.heldOn .cycle k)) := by
  have hp : ∀ m : Chan, m.pulse = false → (s.setChan k m).cyclePresent k = s.heldOn .cycle k := by
    intro m hm
    simp [State.cyclePresent, hm, State.heldOn_congr (s := s) (t := s.setChan k m) rfl rfl rfl]
  have hr : ∀ m : Chan, m.persist = s.chans[k].persist →
      (s.setChan k m).persistReaches k = s.chans[k].reaches s.staging.actCh[k] := by
    intro m hm
    simp [State.persistReaches, Chan.reaches, hm]
  unfold State.markChan
  cases hst : s.chans[k].st with
  | normal => simp only [Chan.marked, Chan.markRecord, hst, State.noteOn]
  | cycle =>
    simp only [Chan.marked, Chan.markRecord, State.markCycle, hst]
    rw [hp _ rfl]
    cases s.heldOn .cycle k with
    | true =>
      rw [hr]
      · cases s.chans[k].reaches s.staging.actCh[k] <;> simp [State.escalate, State.noteOn]
      · rfl
    | false => cases hr : s.staging.actCh[k].recordReleases <;> simp_all [State.recordRelease, State.noteOn]
  | latched => simp only [Chan.marked, Chan.markRecord, hst, State.noteOn]
  | clearing =>
    simp only [Chan.marked, Chan.markRecord, State.markClearing, hst]
    rw [hp _ rfl]
    cases hr : s.staging.actCh[k].recordReleases <;> simp_all [State.recordRelease, State.noteOn]

/-- The starvation check of channel k changes channel k alone and makes at most one record (R71, R72, R75). -/
theorem State.starveChan_eq (k : Channel) :
    s.starveChan k = (s.setChan k (s.chans[k].starveEnd s.staging.actCh[k])).noteOn k
      (s.chans[k].starveRecord s.staging.actCh[k]) := by
  have ht : (if s.chans[k].starving then s.setChan k { s.chans[k] with timer := satInc s.chans[k].timer } else s) =
      s.setChan k s.chans[k].timed := by
    unfold Chan.timed
    split
    · rfl
    · exact (s.setChan_self k).symm
  have hs : (s.setChan k s.chans[k].timed).starved k = s.chans[k].timed.starved s.staging.actCh[k] := by
    have hc : (s.setChan k s.chans[k].timed).chans[k] = s.chans[k].timed := by simp
    unfold State.starved Chan.starved
    rw [hc]
    rfl
  unfold State.starveChan Chan.starveEnd Chan.starveRecord
  dsimp only
  rw [ht, hs]
  split
  · simp [State.escalate, State.noteOn]
  · rfl

@[simp] theorem State.noteOn_frame (k : Channel) (r : Option RecKind) :
    (s.noteOn k r).chans = s.chans ∧ (s.noteOn k r).causes = s.causes ∧ (s.noteOn k r).staging = s.staging ∧
    (s.noteOn k r).lines = s.lines ∧ (s.noteOn k r).sup = s.sup ∧ (s.noteOn k r).wdg = s.wdg ∧
    (s.noteOn k r).time = s.time ∧ (s.noteOn k r).tick = s.tick := by
  unfold State.noteOn
  split <;> simp

/-- Channel k after its turn in phase 3. -/
def Chan.turn (c : Chan) (cfg : ChanCfg) (mark present : Bool) : Chan :=
  (if mark then c.marked cfg present else c).starveEnd cfg

/-- One channel's turn in phase 3 changes channel k alone (R13, R67-R72). -/
theorem State.chanItem_chans (k : Channel) (mark : Bool) :
    (s.chanItem k mark).chans = s.chans.set k.val (s.chans[k].turn s.staging.actCh[k] mark (s.heldOn .cycle k)) k.isLt := by
  unfold State.chanItem Chan.turn
  rw [State.starveChan_eq]
  cases mark with
  | true =>
    rw [if_pos rfl, if_pos rfl, State.markChan_eq]
    simp [State.setChan]
  | false => simp [State.setChan]

theorem State.chanItem_chan (k : Channel) (mark : Bool) :
    (s.chanItem k mark).chans[k] = s.chans[k].turn s.staging.actCh[k] mark (s.heldOn .cycle k) := by
  simp only [State.chanItem_chans, Fin.getElem_fin, Vector.getElem_set_self]

theorem State.chanItem_chan_ne {j k : Channel} (mark : Bool) (h : j ≠ k) : (s.chanItem k mark).chans[j] = s.chans[j] := by
  simp only [State.chanItem_chans, Fin.getElem_fin]
  exact Vector.getElem_set_ne _ _ fun e => h (Fin.ext e.symm)

/-! ### Channels that stay LATCHED -/

theorem Chan.starveEnd_latched {c : Chan} (cfg : ChanCfg) (h : c.st = .latched) : (c.starveEnd cfg).st = .latched := by
  have ht : c.timed.st = .latched := by
    unfold Chan.timed
    split <;> exact h
  unfold Chan.starveEnd
  split
  · exact Chan.latchCause_st _
  · exact ht

theorem Chan.turn_latched {c : Chan} (cfg : ChanCfg) (mark present : Bool) (h : c.st = .latched) :
    (c.turn cfg mark present).st = .latched := by
  refine Chan.starveEnd_latched cfg ?_
  cases mark with
  | true => simp [Chan.marked, h]
  | false => exact h

end Sys2Proof.Machine
end

section
/-! SUPPORT. The channels between the parts of a step: LATCHED in Safe-Hold, and in order with the causes that are present. -/

namespace Sys2Proof.Machine

/-! ### Safe-Hold -/

theorem HoldLatches.of_kept {s t : State} (h : HoldLatches s) (hc : t.causes = s.causes)
    (hk : ∀ k : Channel, s.chans[k].st = .latched → t.chans[k].st = .latched) : HoldLatches t := by
  intro hold k
  exact hk k (h (by simpa [State.inHold, hc] using hold) k)

theorem HoldLatches.congr {s t : State} (h : HoldLatches s) (hc : t.causes = s.causes) (hk : t.chans = s.chans) :
    HoldLatches t := h.of_kept hc fun k e => by rw [hk]; exact e

theorem State.inHold_of_ne {s : State} (h : s.causes ≠ 0) : s.inHold = true := by simpa [State.inHold] using h

theorem HoldLatches.addCause {s : State} (h : HoldLatches s) (c : Cause) (src : Option Source) :
    HoldLatches (s.addCause c src) := by
  intro _ k
  have e := s.addCause_chan c src k
  simp only [Fin.getElem_fin, e]
  split
  · exact Chan.latchCause_st _
  · exact h (State.inHold_of_ne ‹_›) k

theorem HoldLatches.asserted {s : State} (h : HoldLatches s) (src : Source) (x : Contribution) (b : Bool) :
    HoldLatches (s.asserted src x b) := by
  intro hold k
  simp only [Fin.getElem_fin, State.asserted_chan]
  split
  · exact Chan.latchCause_st _
  · rename_i hn
    refine x.appearsOn_latched k _ (h ?_ k)
    rw [State.inHold, State.asserted_causes] at hold
    by_cases hx : x.cls = .safe
    · exact State.inHold_of_ne fun e => hn ⟨hx, e⟩
    · simpa [hx, State.inHold] using hold

theorem HoldLatches.raiseLnk {s : State} (h : HoldLatches s) : HoldLatches s.raiseLnk := by
  unfold State.raiseLnk
  refine HoldLatches.asserted ?_ _ _ _
  exact h

theorem TripKind.force_latched (t : TripKind) {c : Chan} (h : c.st = .latched) : (t.force c).st = .latched := by
  cases t with
  | cycle => simp [TripKind.force, Chan.cycleCause_st, h]
  | latch => exact Chan.latchCause_st c

theorem State.forceTrip_causes (s : State) (mask : ChannelMask) (t : TripKind) : (s.forceTrip mask t).causes = s.causes := by
  simp

theorem State.forceTrip_chans (s : State) (mask : ChannelMask) (t : TripKind) :
    (s.forceTrip mask t).chans = (s.mapChans fun k c => if mask.getLsbD k.val then t.force c else c).chans := by
  unfold State.forceTrip
  dsimp only
  cases s.staging.actTab[hst].record <;> (split <;> simp)

/-- A nonzero mask names a channel. -/
theorem exists_named {mask : ChannelMask} (h : mask ≠ 0) : ∃ k : Channel, mask.getLsbD k.val = true := by
  revert mask
  decide

/-- A named channel clears exactly if it is LATCHED, outside Safe-Hold and without a latch cause (R77). -/
theorem State.clearBlock_none {s : State} {k : Channel} :
    s.clearBlock k = none ↔ s.chans[k].st = .latched ∧ s.inHold = false ∧ s.latchPresent k = false := by
  unfold State.clearBlock
  split
  · rename_i h
    exact ⟨(fun e => nomatch e), fun e => absurd e.1 h⟩
  · rename_i h
    split
    · rename_i hh
      exact ⟨(fun e => nomatch e), fun e => by simp [hh] at e⟩
    · split
      · rename_i hl
        exact ⟨(fun e => nomatch e), fun e => by simp [hl] at e⟩
      · exact ⟨fun _ => ⟨not_not.mp h, by simpa using ‹¬ s.inHold = true›, by simpa using ‹¬ s.latchPresent k = true›⟩,
          fun _ => rfl⟩

theorem HoldLatches.act {s t : State} (h : HoldLatches s) (hm : ActMove s t) : HoldLatches t := by
  cases hm with
  | clearLatch h0 hb =>
    intro hold
    obtain ⟨k, hk⟩ := exists_named h0
    have hn : s.inHold = true := hold
    obtain ⟨-, hh, -⟩ := State.clearBlock_none.mp (hb k hk)
    rw [hh] at hn
    cases hn
  | forceTrip mask t =>
    refine h.of_kept (by simp) fun k hk => ?_
    rw [State.forceTrip_chans]
    simp only [Fin.getElem_fin, State.mapChans_get]
    split
    · exact t.force_latched hk
    · exact hk
  | forceSafe => exact h.addCause _ _
  | exitSafe =>
    intro hold
    simp [State.inHold, State.exitHold] at hold
  | lapse _ =>
    refine HoldLatches.raiseLnk ?_
    exact h
  | revived _ => exact h.congr (by simp) (by simp)
  | commit scope => exact h.congr (by simp) (by simp)
  | arm scope m => exact h.congr (by simp) (by simp)
  | disarm scope => exact h.congr (by simp) (by simp)
  | _ => exact h

theorem State.lineRaw_holds {P : State → Prop} {s : State} (k : LineNo) (a : Bool) (assert : P (s.assertLine k))
    (drop : ∀ b, P (s.dropLine k b false)) (set : ∀ l : Line, l.cfg = s.lines[k].cfg → l.contrib = s.lines[k].contrib →
      P (s.setLine k l)) : P (s.lineRaw k a) := by
  unfold State.lineRaw
  dsimp only
  split
  · exact assert
  · exact drop _
  · exact set _ rfl rfl
  · exact set _ rfl rfl

theorem HoldLatches.steady : Steady HoldLatches where
  aside h e := h.congr (by rw [e]) (by rw [e])
  reset := by
    intro _ k
    simp [State.reset, Chan.reset]
  softReset s kind cold _ := by
    intro _ k
    simp [State.softResetBlocks, Chan.reset]
  endTick s inp h := h.of_kept rfl fun k hk => by simpa [State.endTick] using hk
  act _ _ h hm := h.act hm
  store s r w h _ := by
    cases r with
    | linemode k => exact h.congr (by simp [Reg.store]) (by simp [Reg.store])
    | _ => exact h
  line s k a h _ := by
    refine State.lineRaw_holds k a ?_ (fun b => h.congr (by simp) (by simp)) fun l _ _ => h
    unfold State.assertLine
    refine HoldLatches.asserted ?_ _ _ _
    exact h
  sup s low h := by
    unfold State.supItem
    split
    · unfold State.assertSup
      refine HoldLatches.asserted ?_ _ _ _
      exact h
    · unfold State.clearSup
      dsimp only
      split
      · exact h.congr (by simp) (by simp)
      · exact h
    · exact h
  safeIn s level h := by
    unfold State.safeInItem
    split
    · exact HoldLatches.addCause (s := { s with safeIn := .asserted }) h _ _
    · exact h
  wdg s _ h hm := by
    cases hm with
    | counted _ => exact h
    | opens _ => exact h
    | lapses _ =>
      refine HoldLatches.raiseLnk ?_
      exact h
  scrub _ _ h _ _ := h
  raised s src c _ h := (h.addCause c none).congr (by simp [State.raised]) (by simp [State.raised])
  clearHard s src h := h.congr (by simp) (by simp)
  chan s k mark h := h.of_kept (by simp) fun j hj => by
    by_cases e : j = k
    · subst e
      rw [State.chanItem_chan]
      exact Chan.turn_latched _ _ _ hj
    · rw [State.chanItem_chan_ne _ _ e]
      exact hj
  commit s scope h := h.congr (by simp) (by simp)
  holdoff _ h := h

end Sys2Proof.Machine

open Sys2Proof Sys2Proof.Machine

/-- Settles O3: Safe-Hold is entered with every channel latched, and no move takes a channel out of LATCHED in it. -/
theorem safeHoldKeepsChannelsLatched : Obligations.SafeHoldKeepsChannelsLatched :=
  fun _ _ h e => HoldLatches.steady.step h e

end

section
/-! SUPPORT. The channels' states in order with the causes that are present, with their counts and indications. -/

namespace Sys2Proof.Machine

/-! ### Held contributions -/

theorem State.mem_held {s : State} {x : Contribution} :
    x ∈ s.held ↔ (∃ k : LineNo, s.lines[k].contrib = some x) ∨ s.sup.contrib = some x ∨ s.wdg.lnk = some x := by
  have hl : x ∈ s.lines.toList.filterMap (·.contrib) ↔ ∃ k : LineNo, s.lines[k].contrib = some x := by
    rw [List.mem_filterMap]
    constructor
    · rintro ⟨l, hm, hx⟩
      obtain ⟨i, hi, rfl⟩ := List.getElem_of_mem hm
      exact ⟨⟨i, by simpa using hi⟩, by simpa using hx⟩
    · rintro ⟨k, hx⟩
      exact ⟨s.lines[k], by simp, hx⟩
  simp [State.held, hl]

theorem State.heldOn_iff {s : State} {c : TripClass} {k : Channel} :
    s.heldOn c k = true ↔ ∃ x ∈ s.held, x.cls = c ∧ x.mask.getLsbD k.val = true := by
  simp [State.heldOn, List.any_eq_true]

/-- Fewer contributions are held, or those of a new one besides. -/
def HeldWith (s t : State) (x : Option Contribution) : Prop := ∀ y ∈ t.held, y ∈ s.held ∨ x = some y

theorem HeldWith.same {s t : State} (hl : t.lines = s.lines) (hs : t.sup = s.sup) (hw : t.wdg.lnk = s.wdg.lnk) :
    HeldWith s t none := by
  intro y hy
  rw [State.mem_held, hl, hs, hw, ← State.mem_held] at hy
  exact .inl hy

theorem HeldWith.setLine (s : State) (k : LineNo) (l : Line) (x : Option Contribution)
    (hl : l.contrib = s.lines[k].contrib ∨ l.contrib = x) : HeldWith s (s.setLine k l) x := by
  intro y hy
  rw [State.mem_held] at hy
  rcases hy with ⟨j, hj⟩ | hy
  · by_cases e : j = k
    · subst e
      simp only [Fin.getElem_fin, State.setLine_get] at hj
      rcases hl with hl | hl
      · exact .inl (State.mem_held.mpr (.inl ⟨j, by rw [← hl]; exact hj⟩))
      · exact .inr (by rw [← hl]; exact hj)
    · simp only [Fin.getElem_fin, State.setLine_get_ne _ _ e] at hj
      exact .inl (State.mem_held.mpr (.inl ⟨j, hj⟩))
  · exact .inl (State.mem_held.mpr (.inr hy))

theorem HeldWith.sup (s : State) (c : Cond) (x : Option Contribution) : HeldWith s { s with sup := ⟨c, x⟩ } x := by
  intro y hy
  rcases State.mem_held.mp hy with hy | hy | hy
  · exact .inl (State.mem_held.mpr (.inl hy))
  · exact .inr hy
  · exact .inl (State.mem_held.mpr (.inr (.inr hy)))

theorem HeldWith.lnk (s : State) (w : Watchdog) : HeldWith s { s with wdg := w } w.lnk := by
  intro y hy
  rcases State.mem_held.mp hy with hy | hy | hy
  · exact .inl (State.mem_held.mpr (.inl hy))
  · exact .inl (State.mem_held.mpr (.inr (.inl hy)))
  · exact .inr hy

theorem HeldWith.heldOn {s t : State} {x : Option Contribution} (h : HeldWith s t x) {c : TripClass} {k : Channel}
    (ht : t.heldOn c k = true) : s.heldOn c k = true ∨ ∃ y, x = some y ∧ y.cls = c ∧ y.mask.getLsbD k.val = true := by
  obtain ⟨y, hy, hc⟩ := State.heldOn_iff.mp ht
  rcases h y hy with hs | hx
  · exact .inl (State.heldOn_iff.mpr ⟨y, hs, hc⟩)
  · exact .inr ⟨y, hx, hc⟩

/-! ### One channel in order -/

/-- A channel in order with the presence of a held cycle cause and of a held latch cause (R60, R63, R64, R70, R71, R80). -/
structure Chan.InOrder (c : Chan) (cyc lat : Bool) : Prop where
  normal : c.st = .normal → c.pulse = false ∧ cyc = false
  latch : c.st ≠ .latched → lat = false
  counts : c.st ≠ .cycle → c.persist = 0 ∧ c.timer = 0
  clearing : c.ind = .pending ↔ c.st = .clearing

namespace Chan.InOrder

variable {c : Chan} {cyc lat : Bool}

theorem mono (h : c.InOrder cyc lat) {cyc' lat' : Bool} (hc : cyc' = true → cyc = true) (hl : lat' = true → lat = true) :
    c.InOrder cyc' lat' where
  normal e := ⟨(h.normal e).1, by simpa using mt hc (by simp [(h.normal e).2])⟩
  latch e := by simpa using mt hl (by simp [h.latch e])
  counts := h.counts
  clearing := h.clearing

theorem latched {c : Chan} (hst : c.st = .latched) (hp : c.persist = 0) (ht : c.timer = 0) (hi : c.ind ≠ .pending)
    (cyc lat : Bool) : c.InOrder cyc lat where
  normal e := by simp [hst] at e
  latch e := absurd hst e
  counts _ := ⟨hp, ht⟩
  clearing := by simp [hst, hi]

theorem latchCause (h : c.InOrder cyc lat) (cyc' lat' : Bool) : c.latchCause.InOrder cyc' lat' := by
  unfold Chan.latchCause
  split
  · rename_i hst
    obtain ⟨hp, ht⟩ := h.counts (by simp [hst])
    exact latched hst hp ht (by simp [h.clearing, hst]) _ _
  · refine latched rfl rfl rfl ?_ _ _
    dsimp only
    split
    · simp
    · rw [Ne, h.clearing]
      assumption

/-- The entry into CYCLE leaves a channel in order whatever its pulse is (R63, R73). -/
theorem cycleCause (h : c.InOrder cyc lat) (cyc' : Bool) (p : Bool) :
    ({ c with pulse := p } : Chan).cycleCause.InOrder cyc' lat := by
  unfold Chan.cycleCause
  split
  · rename_i hst
    have hst : c.st = .normal := hst
    exact ⟨by simp [Chan.enterCycle], fun _ => h.latch (by simp [hst]), by simp [Chan.enterCycle],
      by simp [Chan.enterCycle, h.clearing, hst]⟩
  · exact ⟨fun e => absurd e ‹_›, h.latch, h.counts, h.clearing⟩

theorem appearsOn (h : c.InOrder cyc lat) (x : Contribution) (k : Channel) {cyc' lat' : Bool}
    (hc : cyc' = true → cyc = true ∨ (x.cls = .cycle ∧ x.mask.getLsbD k.val = true))
    (hl : lat' = true → lat = true ∨ (x.cls = .latch ∧ x.mask.getLsbD k.val = true)) :
    (x.appearsOn k c).InOrder cyc' lat' := by
  unfold Contribution.appearsOn
  split
  · split
    · rename_i hx
      exact (h.cycleCause cyc' c.pulse).mono id fun e => by simpa [hx] using hl e
    · exact h.latchCause _ _
    · rename_i hx hx'
      exact h.mono (fun e => (hc e).resolve_right fun g => hx g.1) fun e => (hl e).resolve_right fun g => hx' g.1
  · rename_i hm
    exact h.mono (fun e => (hc e).resolve_right fun g => hm g.2) fun e => (hl e).resolve_right fun g => hm g.2

theorem timed (h : c.InOrder cyc lat) : c.timed.InOrder cyc lat := by
  unfold Chan.timed
  split
  · rename_i hs
    have hst : c.st = .cycle := by
      simp only [Chan.starving, Bool.and_eq_true, beq_iff_eq] at hs
      exact hs.1.1
    exact ⟨h.normal, h.latch, fun e => absurd hst e, h.clearing⟩
  · exact h

theorem starveEnd (h : c.InOrder cyc lat) (cfg : ChanCfg) : (c.starveEnd cfg).InOrder cyc lat := by
  unfold Chan.starveEnd
  split
  · exact h.timed.latchCause _ _
  · exact h.timed

theorem marked (h : c.InOrder cyc lat) (cfg : ChanCfg) : (c.marked cfg cyc).InOrder cyc lat := by
  unfold Chan.marked
  split
  · rename_i hst
    exact ⟨fun _ => ⟨rfl, (h.normal hst).2⟩, h.latch, h.counts, h.clearing⟩
  · rename_i hst
    have hi : c.ind ≠ .pending := by simp [h.clearing, hst]
    have hl : lat = false := h.latch (by simp [hst])
    split
    · have hm : ∀ p t, ({ c with persist := p, timer := t, pulse := false, markSeen := true } : Chan).InOrder cyc lat :=
        fun p t => ⟨by simp [hst], fun _ => hl, by simp [hst], h.clearing⟩
      split
      · exact (hm _ c.timer).latchCause _ _
      · exact hm _ _
    · exact ⟨fun _ => ⟨rfl, by simpa using ‹¬ cyc = true›⟩, fun _ => hl, fun _ => ⟨rfl, rfl⟩, by simp [hi]⟩
  · rename_i hst
    exact ⟨fun e => by simp [hst] at e, h.latch, h.counts, h.clearing⟩
  · rename_i hst
    have hl : lat = false := h.latch (by simp [hst])
    obtain ⟨hp, ht⟩ := h.counts (by simp [hst])
    split
    · exact ⟨by simp [Chan.enterCycle], fun _ => hl, by simp [Chan.enterCycle], by simp [Chan.enterCycle]⟩
    · exact ⟨fun _ => ⟨rfl, by simpa using ‹¬ cyc = true›⟩, fun _ => hl, fun _ => ⟨hp, ht⟩, by simp⟩

theorem turn (h : c.InOrder cyc lat) (cfg : ChanCfg) (mark : Bool) : (c.turn cfg mark cyc).InOrder cyc lat := by
  unfold Chan.turn
  cases mark with
  | true => exact (h.marked cfg).starveEnd cfg
  | false => exact h.starveEnd cfg

end Chan.InOrder

/-! ### All channels in order -/

/-- Every channel is in order with the contributions that are held. -/
def ChannelsInOrder (s : State) : Prop :=
  ∀ k : Channel, s.chans[k].InOrder (s.heldOn .cycle k) (s.heldOn .latch k)

@[simp] theorem State.setLine_setLine (s : State) (k : LineNo) (a b : Line) : (s.setLine k a).setLine k b = s.setLine k b := by
  simp [State.setLine, Vector.set_set]

namespace ChannelsInOrder

variable {s t : State}

theorem mono (h : ChannelsInOrder s) (hc : t.chans = s.chans) (hh : HeldWith s t none) : ChannelsInOrder t := by
  intro k
  rw [hc]
  exact (h k).mono (fun e => by simpa using hh.heldOn e) fun e => by simpa using hh.heldOn e

theorem congr (h : ChannelsInOrder s) (hc : t.chans = s.chans) (hl : t.lines = s.lines) (hs : t.sup = s.sup)
    (hw : t.wdg.lnk = s.wdg.lnk) : ChannelsInOrder t := h.mono hc (.same hl hs hw)

/-- The held contributions stand, and each channel is in order with them. -/
theorem of_held (hl : t.lines = s.lines) (hs : t.sup = s.sup) (hw : t.wdg.lnk = s.wdg.lnk)
    (hk : ∀ k : Channel, t.chans[k].InOrder (s.heldOn .cycle k) (s.heldOn .latch k)) : ChannelsInOrder t := by
  intro k
  rw [State.heldOn_congr hl hs hw, State.heldOn_congr hl hs hw]
  exact hk k

theorem addCause (h : ChannelsInOrder s) (c : Cause) (src : Option Source) : ChannelsInOrder (s.addCause c src) := by
  refine of_held (s := s) (by simp) (by simp) (by simp) fun k => ?_
  have e := s.addCause_chan c src k
  simp only [Fin.getElem_fin, e]
  split
  · exact (h k).latchCause _ _
  · exact h k

/-- An assertion acts on the channels as the contribution it captured demands (R62-R64). -/
theorem asserted (h : ChannelsInOrder s) {x : Contribution} (hc : t.chans = s.chans) (hh : HeldWith s t (some x))
    (src : Source) (b : Bool) : ChannelsInOrder (t.asserted src x b) := by
  refine of_held (s := t) (by simp) (by simp) (by simp) fun k => ?_
  simp only [Fin.getElem_fin, State.asserted_chan, hc]
  have ha : (x.appearsOn k s.chans[k]).InOrder (t.heldOn .cycle k) (t.heldOn .latch k) :=
    (h k).appearsOn x k (fun e => by simpa using hh.heldOn e) fun e => by simpa using hh.heldOn e
  split
  · exact ha.latchCause _ _
  · exact ha

theorem raiseLnk (h : ChannelsInOrder s) (w : Watchdog) : ChannelsInOrder ({ s with wdg := w } : State).raiseLnk := by
  unfold State.raiseLnk
  refine h.asserted ?_ ?_ _ _
  · rfl
  · exact HeldWith.lnk s _

theorem dropLine (h : ChannelsInOrder s) (k : LineNo) (a b : Bool) : ChannelsInOrder (s.dropLine k a b) := by
  have h1 : ChannelsInOrder (s.setLine k { s.lines[k] with cond := .idle, contrib := none }) :=
    h.mono rfl (.setLine s k _ none (.inr rfl))
  unfold State.dropLine
  dsimp only
  split
  · exact h1.congr (by simp) (by simp) (by simp) (by simp)
  · exact h1

theorem setLine (h : ChannelsInOrder s) (k : LineNo) (l : Line) (hl : l.contrib = s.lines[k].contrib) :
    ChannelsInOrder (s.setLine k l) := h.mono rfl (.setLine s k l none (.inl hl))

theorem forceTrip (h : ChannelsInOrder s) (mask : ChannelMask) (kind : TripKind) :
    ChannelsInOrder (s.forceTrip mask kind) := by
  refine of_held (s := s) (by simp) (by simp) (by simp) fun k => ?_
  rw [State.forceTrip_chans]
  simp only [Fin.getElem_fin, State.mapChans_get]
  split
  · cases kind with
    | cycle => exact (h k).cycleCause _ true
    | latch => exact (h k).latchCause _ _
  · exact h k

/-- A clear leaves LATCHED only where no latch cause is present, for CYCLE where a cycle cause is (R77-R79). -/
theorem clearLatch (h : ChannelsInOrder s) {mask : ChannelMask}
    (hb : ∀ k : Channel, mask.getLsbD k.val = true → s.clearBlock k = none) :
    ChannelsInOrder (s.mapChans fun k c => if mask.getLsbD k.val then s.clearedChan k c else c) := by
  refine of_held (s := s) rfl rfl rfl fun k => ?_
  simp only [Fin.getElem_fin, State.mapChans_get]
  split
  · rename_i hm
    obtain ⟨hst, -, hl⟩ := State.clearBlock_none.mp (hb k hm)
    obtain ⟨hp, ht⟩ := (h k).counts fun e => by rw [hst] at e; cases e
    unfold State.clearedChan
    split
    · exact ⟨by simp, fun _ => hl, fun _ => ⟨hp, ht⟩, by simp⟩
    · dsimp only
      split
      · exact ⟨by simp [Chan.enterCycle], fun _ => hl, by simp [Chan.enterCycle], by simp [Chan.enterCycle]⟩
      · rename_i hc
        simp only [State.cyclePresent, Bool.or_eq_true, not_or, Bool.not_eq_true] at hc
        exact ⟨fun _ => hc, fun _ => hl, fun _ => ⟨hp, ht⟩, by simp⟩
  · exact h k

theorem act (h : ChannelsInOrder s) (hm : ActMove s t) : ChannelsInOrder t := by
  cases hm with
  | clearLatch _ hb => exact h.clearLatch hb
  | forceTrip mask kind => exact h.forceTrip mask kind
  | forceSafe => exact h.addCause _ _
  | lapse _ => exact h.raiseLnk _
  | revived _ =>
    refine h.mono (by simp) fun y hy => ?_
    rw [State.mem_held] at hy ⊢
    simp at hy
    exact .inl (by simpa using hy.imp_right .inl)
  | commit scope => exact h.congr (by simp) (by simp) (by simp) (by simp)
  | arm scope m => exact h.congr (by simp) (by simp) (by simp) (by simp)
  | disarm scope => exact h.congr (by simp) (by simp) (by simp) (by simp)
  | exitSafe => exact h.congr (by simp) (by simp) (by simp) (by simp)
  | _ => exact h

theorem writeLineMode (h : ChannelsInOrder s) (k : LineNo) (w : Word) : ChannelsInOrder (s.writeLineMode k w) := by
  unfold State.writeLineMode
  dsimp only
  split
  · split
    · exact h.setLine k _ rfl
    · rw [State.setLine_setLine]
      exact h.setLine k _ rfl
  · split
    · exact h.setLine k _ rfl
    · rw [State.setLine_setLine]
      exact h.setLine k _ rfl
    · refine dropLine ?_ k _ _
      exact h.setLine k _ rfl
    · refine dropLine ?_ k _ _
      exact h.setLine k _ rfl

theorem steady : Steady ChannelsInOrder where
  aside h e := h.congr (by rw [e]) (by rw [e]) (by rw [e]) (by rw [e])
  reset := fun k => by
    simp only [State.reset, Fin.getElem_fin, Vector.getElem_replicate]
    exact .latched rfl rfl rfl (by simp [Chan.reset]) _ _
  softReset s kind cold _ := fun k => by
    have hc : (s.softReset kind cold).chans[k] = Chan.reset := by simp [State.softResetBlocks]
    rw [hc]
    exact .latched rfl rfl rfl (by simp [Chan.reset]) _ _
  endTick s inp h := fun k => by
    have hc : (s.endTick inp).chans[k] = { s.chans[k] with markSeen := false, enteredCycle := false } := by
      simp [State.endTick]
    rw [hc]
    exact ⟨(h k).normal, (h k).latch, (h k).counts, (h k).clearing⟩
  act _ _ h hm := h.act hm
  store s r w h _ := by
    cases r with
    | linemode k => exact h.writeLineMode k w
    | lineflt k => exact h.setLine k _ rfl
    | _ => exact h
  line s k a h _ := by
    refine State.lineRaw_holds k a ?_ (fun b => h.dropLine k _ _) fun l _ hl => h.setLine k l hl
    unfold State.assertLine
    refine h.asserted ?_ ?_ _ _
    · rfl
    · exact .setLine s k _ _ (.inr rfl)
  sup s low h := by
    unfold State.supItem
    split
    · unfold State.assertSup
      refine h.asserted ?_ ?_ _ _
      · rfl
      · exact .sup s _ _
    · have h1 : ChannelsInOrder { s with sup := ⟨.idle, none⟩ } := h.mono rfl (.sup s _ none)
      unfold State.clearSup
      dsimp only
      split
      · exact h1.congr (by simp) (by simp) (by simp) (by simp)
      · exact h1
    · refine h.mono rfl fun y hy => .inl ?_
      rw [State.mem_held] at hy ⊢
      exact hy
  safeIn s level h := by
    unfold State.safeInItem
    split
    · unfold State.activateSafeIn
      refine ChannelsInOrder.addCause ?_ _ _
      exact h
    · exact h
  wdg s _ h hm := by
    cases hm with
    | counted _ => exact h
    | opens _ => exact h
    | lapses _ => exact h.raiseLnk _
  scrub _ _ h _ _ := h
  raised s src c _ h :=
    (h.addCause c none).congr (by simp [State.raised]) (by simp [State.raised]) (by simp [State.raised]) (by simp [State.raised])
  clearHard s src h := h.congr (by simp) (by simp) (by simp) (by simp)
  chan s k mark h := by
    refine of_held (s := s) (by simp) (by simp) (by simp) fun j => ?_
    by_cases e : j = k
    · subst e
      rw [State.chanItem_chan]
      exact (h j).turn _ mark
    · rw [State.chanItem_chan_ne _ _ e]
      exact h j
  commit s scope h := h.congr (by simp) (by simp) (by simp) (by simp)
  holdoff _ h := h

end ChannelsInOrder

end Sys2Proof.Machine
end

section
/-! SUPPORT. The indications of a tick between ticks, and with them the order of the channels. -/

namespace Sys2Proof.Machine

/-- Between ticks no mark-seen and no entered-CYCLE indication stands (R60). -/
def Quiet (s : State) : Prop :=
  s.tick = none → ∀ k : Channel, s.chans[k].markSeen = false ∧ s.chans[k].enteredCycle = false

theorem Quiet.congr {s t : State} (h : Quiet s) (ht : t.tick = none → s.tick = none) (hc : t.chans = s.chans) : Quiet t := by
  intro e k
  rw [hc]
  exact h (ht e) k

theorem Quiet.reset : Quiet State.reset := by
  intro _ k
  simp [State.reset, Chan.reset]

/-- Every reset inside a tick leaves no indication (R171). -/
theorem Quiet.of_resetOf {P : State → Prop} {t : State} (h : ResetOf P t) : Quiet t := by
  obtain ⟨u, kind, cold, -, rfl⟩ := h
  intro _ k
  simp [State.softResetBlocks, Chan.reset]

/-- Nothing is asked of a state that a part of a step leaves. -/
theorem Steady.trivial : Steady fun _ => True := by
  constructor <;> intros <;> exact True.intro

theorem Quiet.keeps : Keeps Quiet fun _ _ => True where
  link _ _ h := h
  holdWord _ _ h := h
  pins _ _ h := h
  clock _ _ h := h
  por _ _ := Quiet.reset.congr id rfl
  pin s _ hr := by
    rw [State.pinLow, if_neg (by simp [hr])]
    exact Quiet.reset.congr id rfl
  beginTick _ _ _ := True.intro
  leave _ _ _ _ ht e := by simp [ht] at e
  opened _ _ _ _ := True.intro
  finish s inp _ := fun _ k => by simp [State.endTick]
  linkM _ _ _ _ := True.intro
  tickM _ _ _ _ := True.intro
  countError _ _ := True.intro
  act s code armed args _ := by
    generalize ho : actByCode code armed args s = o
    cases ho ▸ Steady.trivial.actByCode True.intro code armed args with
    | done hm => exact .done True.intro
    | reset hr => exact .reset (.of_resetOf hr)
  write _ _ _ _ _ _ := True.intro
  line _ _ _ _ _ _ := True.intro
  lineOff _ _ _ _ _ := True.intro
  sup _ _ _ _ := True.intro
  safeIn _ _ _ _ := True.intro
  wdg _ _ _ := (Steady.trivial.wdgItem True.intro).mono (fun _ x => x) fun _ x => .of_resetOf x
  scrub _ _ _ := (Steady.trivial.scrubItem True.intro).mono (fun _ x => x) fun _ x => .of_resetOf x
  clk _ _ _ := (Steady.trivial.clkItem True.intro).mono (fun _ x => x) fun _ x => .of_resetOf x
  chan _ _ _ _ _ := True.intro
  keepMarks _ _ _ _ := True.intro
  commitTable _ _ _ _ := True.intro
  commitChannel _ _ _ _ := True.intro
  outputs _ _ _ := True.intro
  irq _ _ _ _ := True.intro
  holdoff _ _ _ := True.intro

/-- The order of the channels is that of each with its causes, and the quiet between ticks. -/
theorem channelsInOrder_iff {s : State} : CausesTracked s ∧ ChannelsTidy s ↔ ChannelsInOrder s ∧ Quiet s := by
  constructor
  · rintro ⟨hc, ht⟩
    refine ⟨fun k => ?_, fun e k => ?_⟩
    · obtain ⟨hn, hl⟩ := hc k
      obtain ⟨hp, hi, -⟩ := ht k
      exact ⟨fun e => by simpa [State.cyclePresent] using hn e, hl, hp, hi⟩
    · obtain ⟨-, -, hq⟩ := ht k
      exact hq e
  · rintro ⟨hc, hq⟩
    refine ⟨fun k => ⟨fun e => ?_, (hc k).latch⟩, fun k => ⟨(hc k).counts, (hc k).clearing, fun e => hq e k⟩⟩
    simpa [State.cyclePresent] using (hc k).normal e

/-! ### The conditioners -/

/-- One conditioner: a contribution exactly while asserted, a count below its limit (R21-R24). -/
def CondFits (c : Cond) (x : Option Contribution) : Prop := x.isSome = c.isActive ∧ c.Counting

/-- A line in order (R20-R24, R28). -/
def LineFits (l : Line) : Prop := CondFits l.cond l.contrib ∧ (l.cfg.enable = false → l.cond = .idle)

/-- All conditioners in order. -/
structure ConditionersFit (s : State) : Prop where
  lines : ∀ k : LineNo, LineFits s.lines[k]
  sup : CondFits s.sup.cond s.sup.contrib
  safeIn : s.safeIn.Counting

theorem conditionersFit_iff {s : State} : ContributionsFit s ∧ CountsFit s ↔ ConditionersFit s := by
  constructor
  · rintro ⟨⟨hl, hs⟩, hlc, hsc, hi⟩
    exact ⟨fun k => ⟨⟨(hl k).1, hlc k⟩, (hl k).2⟩, ⟨hs, hsc⟩, hi⟩
  · rintro ⟨hl, hs, hi⟩
    exact ⟨⟨fun k => ⟨(hl k).1.1, (hl k).2⟩, hs.1⟩, fun k => (hl k).1.2, hs.2, hi⟩

/-- A filter count that has not reached its limit stays below it (R22, R24). -/
theorem count_lt {n limit : Byte} (h : n.toNat < limit.toNat) (hne : n + 1 ≠ limit) : (n + 1).toNat < limit.toNat := by
  bv_omega

theorem Cond.step_counting {c : Cond} (h : c.Counting) (af rf : Byte) (active : Bool) :
    (c.step af rf active).1.Counting := by
  have pos : ∀ b : Byte, b ≠ 0 → (0 : Byte).toNat < b.toNat := by
    intro b hb
    bv_omega
  unfold Cond.step
  split
  · split
    · split
      · exact True.intro
      · exact pos _ ‹_›
    · exact True.intro
  · split
    · split
      · exact True.intro
      · exact count_lt h ‹_›
    · exact True.intro
  · split
    · exact True.intro
    · split
      · exact True.intro
      · exact pos _ ‹_›
  · split
    · exact True.intro
    · split
      · exact True.intro
      · exact count_lt h ‹_›

/-- Only an assertion and a clear change whether a conditioner counts as asserted (R21-R24). -/
theorem Cond.step_active (c : Cond) (af rf : Byte) (active : Bool) (ha : (c.step af rf active).2 ≠ .assertion)
    (hc : (c.step af rf active).2 ≠ .clear) : (c.step af rf active).1.isActive = c.isActive := by
  revert ha hc
  unfold Cond.step
  split <;> split <;> (try split) <;> simp [Cond.isActive]

theorem CondFits.step {c : Cond} {x : Option Contribution} (h : CondFits c x) {af rf : Byte} {active : Bool}
    (ha : (c.step af rf active).2 ≠ .assertion) (hc : (c.step af rf active).2 ≠ .clear) :
    CondFits (c.step af rf active).1 x := by
  obtain ⟨hx, hn⟩ := h
  exact ⟨by rw [Cond.step_active c af rf active ha hc]; exact hx, Cond.step_counting hn af rf active⟩

theorem CondFits.asserted (x : Contribution) : CondFits .asserted (some x) := ⟨rfl, True.intro⟩

theorem CondFits.idle : CondFits .idle none := ⟨rfl, True.intro⟩

namespace ConditionersFit

variable {s t : State}

theorem congr (h : ConditionersFit s) (hl : t.lines = s.lines) (hs : t.sup = s.sup) (hi : t.safeIn = s.safeIn) :
    ConditionersFit t where
  lines k := by rw [hl]; exact h.lines k
  sup := by rw [hs]; exact h.sup
  safeIn := by rw [hi]; exact h.safeIn

theorem setLine (h : ConditionersFit s) (k : LineNo) {l : Line} (hl : LineFits l) : ConditionersFit (s.setLine k l) where
  lines j := by
    by_cases e : j = k
    · subst e
      simpa using hl
    · simpa [State.setLine_get_ne _ _ e] using h.lines j
  sup := h.sup
  safeIn := h.safeIn

/-- The end of a contribution leaves every line in order if the other lines were. -/
theorem dropLine {k : LineNo} (h : ∀ l : Line, l.cond = .idle → l.contrib = none → ConditionersFit (s.setLine k l))
    (a b : Bool) : ConditionersFit (s.dropLine k a b) := by
  have h1 := h { s.lines[k] with cond := .idle, contrib := none } rfl rfl
  unfold State.dropLine
  dsimp only
  split
  · exact h1.congr (by simp) (by simp) (by simp)
  · exact h1

theorem setIdle (h : ConditionersFit s) (k : LineNo) (l : Line) (hc : l.cond = .idle) (hx : l.contrib = none) :
    ConditionersFit (s.setLine k l) := h.setLine k ⟨by rw [hc, hx]; exact .idle, fun _ => hc⟩

theorem asserted (h : ConditionersFit s) (src : Source) (x : Contribution) (b : Bool) :
    ConditionersFit (s.asserted src x b) := h.congr (by simp) (by simp) (by simp)

theorem assertLine (h : ConditionersFit s) (k : LineNo) (he : s.lines[k].cfg.enable = true) :
    ConditionersFit (s.assertLine k) := by
  unfold State.assertLine
  refine asserted (h.setLine k ⟨.asserted _, fun e => ?_⟩) _ _ _
  exact absurd (he.symm.trans e) (by decide)

theorem lineRaw (h : ConditionersFit s) (k : LineNo) (a : Bool) (he : s.lines[k].cfg.enable = true) :
    ConditionersFit (s.lineRaw k a) := by
  obtain ⟨hc, -⟩ := h.lines k
  have kept : ∀ c ev (g : Byte), s.lines[k].cond.step s.lines[k].cfg.af s.lines[k].cfg.rf a = (c, ev) → ev ≠ .assertion →
      ev ≠ .clear → LineFits { s.lines[k] with cond := c, glitch := g } := by
    intro c ev g e h1 h2
    refine ⟨?_, fun e => absurd (he.symm.trans e) (by decide)⟩
    have := hc.step (af := s.lines[k].cfg.af) (rf := s.lines[k].cfg.rf) (active := a) (by rw [e]; exact h1)
      (by rw [e]; exact h2)
    rwa [e] at this
  unfold State.lineRaw
  dsimp only
  split
  · exact h.assertLine k he
  · exact dropLine (h.setIdle k) _ _
  · exact h.setLine k (kept _ _ _ ‹_› (by simp) (by simp))
  · exact h.setLine k (kept _ _ s.lines[k].glitch ‹_› (by simp) (by simp))

theorem supItem (h : ConditionersFit s) (low : Bool) : ConditionersFit (s.supItem low) := by
  have put : ∀ x : Sup, CondFits x.cond x.contrib → ConditionersFit { s with sup := x } :=
    fun x hx => ⟨h.lines, hx, h.safeIn⟩
  unfold State.supItem
  split
  · exact (put ⟨.asserted, some (s.capture supSrc 8)⟩ (.asserted _)).congr (by simp [State.assertSup])
      (by simp [State.assertSup]) (by simp [State.assertSup])
  · unfold State.clearSup
    dsimp only
    split
    · exact (put ⟨.idle, none⟩ .idle).congr (by simp) (by simp) (by simp)
    · exact put ⟨.idle, none⟩ .idle
  · rename_i h1 h2 e
    refine put _ ?_
    have := h.sup.step (af := Config.supAssertLimit) (rf := Config.supReleaseLimit) (active := low)
      (by rw [e]; exact h1) (by rw [e]; exact h2)
    rwa [e] at this

theorem safeInItem (h : ConditionersFit s) (level : Bool) : ConditionersFit (s.safeInItem level) := by
  have put : ∀ c : Cond, c.Counting → ConditionersFit { s with safeIn := c } := fun c hc => ⟨h.lines, h.sup, hc⟩
  unfold State.safeInItem
  split
  · exact (put .asserted True.intro).congr (by simp [State.activateSafeIn]) (by simp [State.activateSafeIn])
      (by simp [State.activateSafeIn])
  · rename_i e
    have := Cond.step_counting h.safeIn Config.safeInLimit Config.safeInLimit (!level)
    rw [e] at this
    exact put _ this

theorem writeLineMode (h : ConditionersFit s) (k : LineNo) (w : Word) : ConditionersFit (s.writeLineMode k w) := by
  obtain ⟨hc, he⟩ := h.lines k
  unfold State.writeLineMode
  dsimp only
  split
  · rename_i hw
    have on : ∀ g : Byte, LineFits ⟨{ s.lines[k].cfg with
        enable := w.getLsbD 0, activeLow := w.getLsbD 1, recordClear := w.getLsbD 2 }, s.lines[k].cond,
        s.lines[k].contrib, g⟩ := fun g => ⟨hc, fun e => by rw [hw] at e; cases e⟩
    split
    · exact h.setLine k (on _)
    · rw [State.setLine_setLine]
      exact h.setLine k (on _)
  · have dropped : ∀ l : Line, ConditionersFit ((s.setLine k l).dropLine k true true) := fun l =>
      dropLine (fun l' hc hx => by rw [State.setLine_setLine]; exact h.setIdle k l' hc hx) _ _
    split
    · rename_i hi
      exact h.setLine k ⟨hc, fun _ => hi⟩
    · rename_i hq
      rw [State.setLine_setLine]
      refine h.setLine k ⟨⟨?_, True.intro⟩, fun _ => rfl⟩
      obtain ⟨hx, -⟩ := hc
      rw [hq] at hx
      exact hx
    · exact dropped _
    · exact dropped _

theorem steady : Steady ConditionersFit where
  aside h e := h.congr (by rw [e]) (by rw [e]) (by rw [e])
  reset := by
    refine ⟨fun k => ?_, .idle, True.intro⟩
    simp only [State.reset, Fin.getElem_fin, Vector.getElem_replicate]
    exact ⟨.idle, fun _ => rfl⟩
  softReset s kind cold _ := by
    refine ConditionersFit.congr (s := s.softResetBlocks kind cold) ⟨fun k => ?_, .idle, True.intro⟩
      (by simp) (by simp) (by simp)
    simp only [State.softResetBlocks, Fin.getElem_fin, Vector.getElem_ofFn]
    exact ⟨.idle, fun _ => rfl⟩
  endTick _ _ h := h.congr rfl rfl rfl
  act s t h hm := by
    cases hm with
    | lapse _ => exact h.congr (by simp [State.lapseNow]) (by simp [State.lapseNow]) (by simp [State.lapseNow])
    | _ => exact h.congr (by simp) (by simp) (by simp)
  store s r w h _ := by
    cases r with
    | linemode k => exact h.writeLineMode k w
    | lineflt k => exact h.setLine k ⟨(h.lines k).1, (h.lines k).2⟩
    | _ => exact h.congr rfl rfl rfl
  line _ k a h he := h.lineRaw k a he
  sup _ low h := h.supItem low
  safeIn _ level h := h.safeInItem level
  wdg _ _ h hm := by
    cases hm with
    | counted _ => exact h.congr rfl rfl rfl
    | opens _ => exact h.congr rfl rfl rfl
    | lapses _ => exact h.congr (by simp) (by simp) (by simp)
  scrub _ _ h _ _ := h.congr rfl rfl rfl
  raised s src c _ h := h.congr (by simp [State.raised]) (by simp [State.raised]) (by simp [State.raised])
  clearHard s src h := h.congr (by simp) (by simp) (by simp)
  chan s k mark h := h.congr (by simp) (by simp) (by simp)
  commit s scope h := h.congr (by simp) (by simp) (by simp)
  holdoff _ h := h.congr rfl rfl rfl

end ConditionersFit

/-! ### The scrubber -/

theorem ScrubberFits.congr {s t : State} (h : ScrubberFits s) (hv : t.staging.tableValid = s.staging.tableValid)
    (ht : t.staging.actTab = s.staging.actTab) (hs : t.scrub = s.scrub) : ScrubberFits t := by
  unfold ScrubberFits
  rw [hv, ht, hs]
  exact h

/-- A running scrubber whose accumulator and reference are in step with the active table. -/
theorem ScrubberFits.running {s : State} (hv : s.staging.tableValid = true)
    (ha : s.scrub.acc = crc16 (firstWords s.staging.actTab s.scrub.position.val))
    (hr : s.scrub.ref = crc16 (tableWords s.staging.actTab) ∨ s.scrub.ref = ~~~ crc16 (tableWords s.staging.actTab)) :
    ScrubberFits s := ⟨fun e => (nomatch hv.symm.trans e), fun _ => ⟨ha, hr⟩⟩

theorem ScrubberFits.stopped {s : State} (hv : s.staging.tableValid = false) (hs : s.scrub = Scrubber.reset) :
    ScrubberFits s := ⟨fun _ => hs, fun e => (nomatch hv.symm.trans e)⟩

/-- The words up to the entry at the scrubber's position, once it has been read (R54). -/
theorem firstWords_succ (t : Vector Entry 22) (i : Fin 22) :
    firstWords t (i.val + 1) = firstWords t i.val ++ [t[i].word0, t[i].word1] := by
  have hg : t.toList[i.val]? = some t[i] := by simp
  unfold firstWords
  rw [List.take_add_one, hg, List.flatMap_append]
  rfl

theorem crc16_firstWords_succ (t : Vector Entry 22) (i : Fin 22) :
    crc16 (firstWords t (i.val + 1)) = crc16Word (crc16Word (crc16 (firstWords t i.val)) t[i].word0) t[i].word1 := by
  rw [firstWords_succ]
  unfold crc16
  rw [List.foldl_append]
  rfl

theorem ScrubberFits.scrubMove {s : State} (h : ScrubberFits s) (hv : s.staging.tableValid = true) {q : Scrubber}
    (hm : ScrubMove s q) : ScrubberFits { s with scrub := q } := by
  obtain ⟨-, hrun⟩ := h
  obtain ⟨ha, hr⟩ := hrun hv
  cases hm with
  | pace => exact .running hv ha hr
  | read hp =>
    refine .running hv ?_ hr
    change s.scrubAcc = _
    unfold State.scrubAcc
    rw [ha]
    exact (crc16_firstWords_succ s.staging.actTab s.scrub.position).symm
  | pass c => exact .running hv rfl hr

theorem ScrubberFits.applyCommit {s : State} (h : ScrubberFits s) (scope : Scope) : ScrubberFits (s.applyCommit scope) := by
  cases scope with
  | table =>
    obtain ⟨e, -⟩ := s.applyCommit_table
    rw [e]
    exact .running rfl rfl (.inl rfl)
  | channel k =>
    obtain ⟨e, -⟩ := s.applyCommit_channel k
    rw [e]
    exact h

theorem ScrubberFits.act {s t : State} (h : ScrubberFits s) (hm : ActMove s t) : ScrubberFits t := by
  cases hm with
  | commit scope => exact h.applyCommit scope
  | selftest hv =>
    obtain ⟨-, hrun⟩ := h
    obtain ⟨ha, hr⟩ := hrun hv
    refine .running hv ha ?_
    rcases hr with hr | hr
    · exact .inr (congrArg (fun w => ~~~w) hr)
    · exact .inl ((congrArg (fun w => ~~~w) hr).trans (BitVec.not_not ..))
  | arm scope m => cases scope <;> exact h
  | disarm scope => cases scope <;> exact h
  | lapse _ => exact h.congr (by simp [State.lapseNow]) (by simp [State.lapseNow]) (by simp [State.lapseNow])
  | forceTrip mask kind => exact h.congr (by simp) (by simp) (by simp)
  | forceSafe => exact h.congr (by simp) (by simp) (by simp)
  | exitSafe => exact h.congr (by simp) (by simp) (by simp)
  | revived _ => exact h.congr (by simp) (by simp) (by simp)
  | _ => exact h

theorem ScrubberFits.steady : Steady ScrubberFits where
  aside h e := h.congr (by rw [e]) (by rw [e]) (by rw [e])
  reset := .stopped rfl rfl
  softReset s kind cold _ := .stopped (by simp [State.softResetBlocks, Staging.softReset]) (by simp [State.softResetBlocks])
  endTick _ _ h := h
  act _ _ h hm := h.act hm
  store s r w h _ := by
    cases r with
    | linemode k => exact h.congr (by simp [Reg.store]) (by simp [Reg.store]) (by simp [Reg.store])
    | _ => exact h
  line _ k a h _ := h.congr (by simp) (by simp) (by simp)
  sup _ low h := h.congr (by simp) (by simp) (by simp)
  safeIn _ level h := h.congr (by simp) (by simp) (by simp)
  wdg _ _ h hm := by
    cases hm with
    | counted _ => exact h
    | opens _ => exact h
    | lapses _ => exact h.congr (by simp) (by simp) (by simp)
  scrub _ _ h hv hm := h.scrubMove hv hm
  raised s src c _ h := h.congr (by simp [State.raised]) (by simp [State.raised]) (by simp [State.raised])
  clearHard s src h := h.congr (by simp) (by simp) (by simp)
  chan s k mark h := h.congr (by simp) (by simp) (by simp)
  commit s scope h := ScrubberFits.applyCommit (s := s.disarm scope) (by cases scope <;> exact h) scope
  holdoff _ h := h

end Sys2Proof.Machine

open Sys2Proof Sys2Proof.Machine

/-- Settles O4: each channel stays in order with the causes that every part of a step leaves present, and the end of a tick
and every reset clear the indications. -/
theorem channelsStayInOrder : Obligations.ChannelsStayInOrder := by
  intro s t h e
  obtain ⟨hc, hq⟩ := channelsInOrder_iff.mp h
  exact channelsInOrder_iff.mpr ⟨ChannelsInOrder.steady.step hc e, Quiet.keeps.step (fun _ _ h => h) hq e⟩

/-- Settles O9: a line's own transition, the assertion and the drop are all that touch a conditioner. -/
theorem conditionersStayFit : Obligations.ConditionersStayFit :=
  fun _ _ h e => conditionersFit_iff.mpr (ConditionersFit.steady.step (conditionersFit_iff.mp h) e)

/-- Settles O11: the scrubber reads the active entries in order, and what changes the table restarts it. -/
theorem scrubberTracksTheActiveTable : Obligations.ScrubberTracksTheActiveTable :=
  fun _ _ h e => ScrubberFits.steady.step h e

end

section
/-! SUPPORT. The clock monitor between the parts of a step. -/

namespace Sys2Proof.Machine

/-- The clock monitor in order: outside GOOD the timebase runs on BACKUP with no return waiting, and the recovery count belongs
to RECOVERING (R8-R10). -/
structure ClockMon.Fits (c : ClockMon) : Prop where
  away : c.mon ≠ .good → c.src = .backup ∧ c.toRef = false ∧ c.handOffs.getLast? ≠ some .clear
  idle : c.mon ≠ .recovering → c.recovery = 0
  below : c.recovery < Config.recoveryLimit

theorem clockFits_iff {s : State} : ClockFits s ↔ s.clk.Fits :=
  ⟨fun ⟨h1, h2, h3⟩ => ⟨h1, h2, h3⟩, fun ⟨h1, h2, h3⟩ => ⟨h1, h2, h3⟩⟩

theorem recoveryLimit_pos : 0 < Config.recoveryLimit := by decide

namespace ClockMon.Fits

variable {c : ClockMon}

theorem missing (c : ClockMon) : c.missing.Fits :=
  ⟨fun _ => ⟨rfl, rfl, by simp [ClockMon.missing]⟩, fun _ => rfl, recoveryLimit_pos⟩

theorem lostAgain (h : c.Fits) (hr : c.mon ≠ .good) : c.lostAgain.Fits :=
  ⟨fun _ => h.away hr, fun _ => rfl, recoveryLimit_pos⟩

theorem returned (h : c.Fits) (hr : c.mon ≠ .good) : c.returned.Fits :=
  ⟨fun _ => h.away hr, fun _ => rfl, recoveryLimit_pos⟩

theorem recovered (c : ClockMon) : c.recovered.Fits :=
  ⟨fun e => absurd rfl e, fun _ => rfl, recoveryLimit_pos⟩

theorem goodPeriod (h : c.Fits) (hr : c.mon = .recovering) : c.goodPeriod.Fits := by
  unfold ClockMon.goodPeriod
  split
  · exact ⟨h.away, fun e => absurd hr e, ‹_›⟩
  · exact recovered c

/-- The gap count is no part of the relation. -/
theorem gap (h : c.Fits) (n : Nat) : ({ c with gap := n } : ClockMon).Fits := ⟨h.away, h.idle, h.below⟩

theorem period (h : c.Fits) : c.period.Fits := by
  unfold ClockMon.period
  split
  · exact h.gap 0
  · split
    · exact h.gap _
    · split
      · exact missing c
      · exact h.gap _
      · exact h.lostAgain (by simp_all)

theorem take (h : c.Fits) (e : ClockEvent) : (c.take e).Fits := by
  unfold ClockMon.take
  cases e with
  | missing =>
    dsimp only
    split
    · exact missing c
    · exact h
  | returned =>
    dsimp only
    split
    · exact h.returned (by simp_all)
    · exact h
  | lostAgain =>
    dsimp only
    split
    · exact h.lostAgain (by simp_all)
    · exact h
  | goodPeriod =>
    dsimp only
    split
    · exact h.goodPeriod ‹_›
    · exact h.gap 0
    · exact h
  | recovered =>
    dsimp only
    split
    · exact recovered c
    · exact h

/-- The return to REF is made in GOOD alone (R10). -/
theorem endTick (h : c.Fits) : c.endTick.Fits := by
  unfold ClockMon.endTick
  split
  · rename_i ht
    have hg : c.mon = .good := by
      by_contra hn
      obtain ⟨-, hf, -⟩ := h.away hn
      exact absurd (ht.symm.trans hf) (by decide)
    exact ⟨fun e => absurd hg e, h.idle, h.below⟩
  · exact h

end ClockMon.Fits

theorem State.softReset_clk (s : State) (kind : ResetKind) (cold : Bool) : (s.softReset kind cold).clk = s.clk.endTick := by
  simp [State.softResetBlocks]

/-- The clock monitor between two hand-offs of its item: `l` waits, and a return can wait only until the last one (R7, R10). -/
structure ClockMon.Handing (l : List HandOff) (c : ClockMon) : Prop where
  waits : c.handOffs = l
  away : c.mon ≠ .good → c.src = .backup ∧ l.getLast? ≠ some .clear
  last : c.mon ≠ .good → l = [] → c.toRef = false
  idle : c.mon ≠ .recovering → c.recovery = 0
  below : c.recovery < Config.recoveryLimit

theorem ClockMon.Handing.fits {l : List HandOff} {c : ClockMon} (h : c.Handing l) (ht : c.mon ≠ .good → c.toRef = false) :
    c.Fits := ⟨fun e => ⟨(h.away e).1, ht e, by rw [h.waits]; exact (h.away e).2⟩, h.idle, h.below⟩

/-- The hand-off of one item taken from those that wait. -/
theorem ClockMon.Handing.tail {x : HandOff} {rest : List HandOff} {c : ClockMon} (h : c.Handing (x :: rest)) (b : Bool) :
    ({ c with handOffs := rest, cond := b, toRef := x == .clear } : ClockMon).Handing rest where
  waits := rfl
  away e := by
    obtain ⟨hs, hl⟩ := h.away e
    refine ⟨hs, ?_⟩
    cases rest with
    | nil => simp
    | cons y ys => simpa using hl
  last e hr := by
    obtain ⟨-, hl⟩ := h.away e
    subst hr
    simpa using hl
  idle := h.idle
  below := h.below

theorem handOffsFrom_clk (l : List HandOff) : ∀ s : State, s.clk.Handing l →
    (handOffsFrom l s).Holds (fun t => t.clk.Fits) fun t => t.clk.Fits := by
  induction l with
  | nil => exact fun s h => .goes (h.fits fun e => h.last e rfl)
  | cons x rest ih =>
    intro s h
    refine Progress.Holds.bind (M := fun t => t.clk.Handing rest) ?_ ih
    cases x with
    | raise =>
      have ht := h.tail true
      unfold State.handOff
      dsimp only
      rw [State.raiseHard_eq]
      split
      · refine .abandoned ?_
        rw [State.protReset, State.softReset_clk]
        refine ClockMon.Fits.endTick ?_
        have e : ∀ u : State, (u.raised clkSrc .clock).clk = u.clk := fun u => by simp [State.raised]
        rw [e]
        exact ht.fits fun _ => rfl
      · refine .goes ?_
        have e : ∀ u : State, (u.raised clkSrc .clock).clk = u.clk := fun u => by simp [State.raised]
        rw [e]
        exact ht
    | clear =>
      refine .goes ?_
      have e : ∀ u : State, (u.clearHard clkSrc).clk = u.clk := fun u => by simp
      rw [e]
      exact h.tail false

/-- A part of a tick that leaves the clock monitor, or ends in a reset of a state that has the same monitor. -/
abbrev KeepsClk (s : State) (p : Progress) : Prop :=
  p.Holds (fun t => t.clk = s.clk) fun t => t.clk = s.clk.endTick

theorem State.raiseHard_clk (s : State) (src : Source) (c : Cause) (other : Source) :
    KeepsClk s (s.raiseHard src c other) := by
  have e : (s.raised src c).clk = s.clk := by simp [State.raised]
  rw [State.raiseHard_eq]
  split
  · exact .abandoned (by rw [State.protReset, State.softReset_clk, e])
  · exact .goes e

theorem State.wdgItem_clk (s : State) : KeepsClk s s.wdgItem := by
  unfold State.wdgItem
  dsimp only
  split
  · exact .goes rfl
  · split <;> exact .goes rfl
  · split
    · exact .goes (by simp)
    · exact .goes rfl
  · split
    · exact .abandoned (by rw [State.protReset, State.softReset_clk])
    · exact .goes rfl

theorem State.scrubItem_clk (s : State) : KeepsClk s s.scrubItem := by
  unfold State.scrubItem
  split
  · split
    · exact .goes rfl
    · unfold State.scrubRead
      split
      · exact .goes rfl
      · unfold State.scrubPassEnd
        dsimp only
        split
        · split
          · exact .goes (by simp)
          · exact .goes rfl
        · split
          · exact .goes rfl
          · refine (State.raiseHard_clk _ _ _ _).mono (fun _ e => ?_) fun _ e => ?_
            · exact e
            · exact e
  · exact .goes rfl

theorem ActMove.clk {s t : State} (hm : ActMove s t) : t.clk = s.clk := by
  cases hm with
  | lapse _ => simp [State.lapseNow]
  | _ => simp

theorem State.applyWrite_clk (s : State) (tag : BitVec 6) (start count : Byte) (data : List Word) :
    (s.applyWrite tag start count data).clk = s.clk :=
  State.applyWrite_keeps (P := fun t => t.clk = s.clk) (fun _ _ h => h)
    (fun t r w h _ => by cases r <;> simp [Reg.store, h]) rfl _ _ _ _

theorem ClockMon.Fits.keeps : Keeps (fun s => s.clk.Fits) fun _ s => s.clk.Fits where
  link _ _ h := h
  holdWord _ _ h := h
  pins _ _ h := h
  clock _ e h := h.take e
  por _ _ := ⟨fun e => absurd rfl e, fun _ => rfl, recoveryLimit_pos⟩
  pin s _ hr := by
    rw [State.pinLow, if_neg (by simp [hr])]
    exact ⟨fun e => absurd rfl e, fun _ => rfl, recoveryLimit_pos⟩
  beginTick s inp h := by
    have e : (s.beginTick inp).clk = s.clk.period := by simp [State.beginTick]
    rw [e]
    exact h.period
  leave _ _ _ h _ := h
  opened _ _ h _ := h
  finish _ _ h := h.endTick
  linkM _ _ _ h := h
  tickM _ _ _ h := h
  countError _ h := h
  act s code armed args h := by
    generalize ho : actByCode code armed args s = o
    cases ho ▸ actByCode_move code armed args s with
    | done hm => exact .done (by rw [hm.clk]; exact h)
    | reset hr => exact .reset (by rw [hr, State.cmdReset, State.softReset_clk]; exact h.endTick)
  write s tag start count data h := by rw [State.applyWrite_clk]; exact h
  line s k a _ h _ := by simpa using h
  lineOff _ _ _ h _ := h
  sup s low _ h := by simpa using h
  safeIn s level _ h := by simpa using h
  wdg s _ h := s.wdgItem_clk.mono (fun _ e => by rw [e]; exact h) fun _ e => by rw [e]; exact h.endTick
  scrub s _ h := s.scrubItem_clk.mono (fun _ e => by rw [e]; exact h) fun _ e => by rw [e]; exact h.endTick
  clk s _ h := by
    refine handOffsFrom_clk _ { s with clk := { s.clk with seen := s.clk.mon } } ⟨rfl, fun e => ?_, fun e _ => ?_, h.idle, h.below⟩
    · obtain ⟨hs, -, hl⟩ := h.away e
      exact ⟨hs, hl⟩
    · obtain ⟨-, ht, -⟩ := h.away e
      exact ht
  chan s k mark _ h := by simpa using h
  keepMarks _ _ _ h := h
  commitTable s k _ h := by
    unfold State.commitItem
    split
    · simpa using h
    · exact h
  commitChannel s k _ h := by
    unfold State.commitItem
    split
    · simpa using h
    · exact h
  outputs _ _ h := h
  irq _ _ _ h := h
  holdoff _ _ h := h

end Sys2Proof.Machine

open Sys2Proof Sys2Proof.Machine

/-- Settles O10: the monitor's own transitions, its hand-offs and the end of a tick are all that touch it. -/
theorem clockMonitorStaysFit : Obligations.ClockMonitorStaysFit :=
  fun _ _ h e => clockFits_iff.mpr (ClockMon.Fits.keeps.step (fun _ _ h => h) (clockFits_iff.mp h) e)

end

section
/-! SUPPORT. The outputs between ticks: recomputed in phase 5 after everything that they show, and by every reset. -/

namespace Sys2Proof.Machine

/-! ### In Safe-Hold -/

theorem byteOfLevels_bits (b : Byte) : byteOfLevels (fun i => b.getLsbD i.val) = b := by revert b; decide

theorem State.layerNow_hold {s : State} (h : s.inHold = true) (i : Fin 8) : s.layerNow i = .safe := by
  simp [State.layerNow, layerOf, h]

theorem State.levelNow_hold {s : State} (h : s.inHold = true) (i : Fin 8) : s.levelNow i = s.safepat.getLsbD i.val := by
  simp [State.levelNow, State.layerNow_hold h, levelUnder]

theorem State.layersNow_hold {s : State} (h : s.inHold = true) : Vector.ofFn s.layerNow = Vector.replicate 8 .safe := by
  rw [funext (State.layerNow_hold h)]
  rfl

theorem State.levelsNow_hold {s : State} (h : s.inHold = true) : byteOfLevels s.levelNow = s.safepat := by
  rw [funext (State.levelNow_hold h), byteOfLevels_bits]

/-- In Safe-Hold the outputs show layer 1 and the pattern (R87). -/
theorem Shown.hold {s : State} (h : s.inHold = true) (hl : s.outs.layers = Vector.replicate 8 .safe)
    (hp : s.outs.level = s.safepat) (hn : s.outs.nSafe = true) : Shown s :=
  ⟨hl.trans (State.layersNow_hold h).symm, hp.trans (State.levelsNow_hold h).symm, hn.trans h.symm⟩

/-! ### What the outputs show -/

theorem Shown.recomputed (s : State) : Shown s.recomputeOutputs := ⟨rfl, rfl, rfl⟩

/-- The end of a tick leaves what the outputs show (R91). -/
theorem Shown.endTick {s : State} (h : Shown s) (inp : Samples) : Shown (s.endTick inp) := by
  have hc : ∀ k : Channel, (s.endTick inp).chans[k] = { s.chans[k] with markSeen := false, enteredCycle := false } :=
    fun k => by simp [State.endTick]
  have hl : (s.endTick inp).layerNow = s.layerNow := by
    funext i
    simp only [State.layerNow, State.cyclePresent, hc]
    rfl
  have hv : (s.endTick inp).levelNow = s.levelNow := by
    funext i
    unfold State.levelNow
    rw [hl]
    rfl
  obtain ⟨h1, h2, h3⟩ := h
  exact ⟨by rw [hl]; exact h1, by rw [hv]; exact h2, h3⟩

theorem OutputsShown.idle {s : State} (ht : s.tick = none) (h : Shown s) : OutputsShown s := by
  unfold OutputsShown
  rw [ht]
  exact h

theorem OutputsShown.of_resetOf {P : State → Prop} {t : State} (h : ResetOf P t) : OutputsShown t := by
  obtain ⟨u, kind, cold, -, rfl⟩ := h
  exact .idle (State.softReset_tick u kind cold) (Shown.recomputed _)

theorem OutputsShown.hardReset (s : State) (kind : ResetKind) (sticky : BitVec 4) (pins : Pins) :
    OutputsShown (s.hardReset kind sticky pins) := .idle rfl (.hold rfl rfl rfl rfl)

/-! ### The order of a tick -/

/-- What is left of a tick before an item that is not of phase 5 holds the outputs' item (R13). -/
theorem outputs_mem_of_early {i : Item} {rest : List Item} (h : i :: rest <:+ tickItems) (hi : i ∉ phase5Items) :
    Item.outputs ∈ rest := by
  have all : ∀ l ∈ tickItems.tails, ∀ j ∈ l.head?, j ∈ phase5Items ∨ Item.outputs ∈ l.tail := by decide
  exact (all _ ((List.mem_tails _ _).mpr h) i rfl).resolve_left hi

/-- Inside a tick, with these items left. -/
def ShownAfter (l : List Item) (s : State) : Prop := l <:+ tickItems ∧ (.outputs ∈ l ∨ Shown s)

theorem ShownAfter.tick (s : State) : ShownAfter tickItems s := ⟨List.suffix_refl _, .inl (by decide)⟩

/-- An item before phase 5 can leave anything. -/
theorem ShownAfter.early {i : Item} {rest : List Item} {s : State} (h : ShownAfter (i :: rest) s) (hi : i ∉ phase5Items)
    (t : State) : ShownAfter rest t := by
  obtain ⟨hl, -⟩ := h
  exact ⟨(List.suffix_cons i rest).trans hl, .inl (outputs_mem_of_early hl hi)⟩

/-- An item after the outputs' leaves what they show. -/
theorem ShownAfter.late {i : Item} {rest : List Item} {s t : State} (h : ShownAfter (i :: rest) s) (hi : i ≠ .outputs)
    (hs : Shown s → Shown t) : ShownAfter rest t := by
  obtain ⟨hl, hm⟩ := h
  refine ⟨(List.suffix_cons i rest).trans hl, hm.imp (fun e => ?_) hs⟩
  exact (List.mem_cons.mp e).resolve_left fun e => hi e.symm

/-- A part of a tick before phase 5, which goes on or ends in a reset. -/
theorem ShownAfter.part {i : Item} {rest : List Item} {s : State} (h : ShownAfter (i :: rest) s) (hi : i ∉ phase5Items)
    {p : Progress} (hp : p.Holds (fun _ => True) (ResetOf fun _ => True)) : p.Holds (ShownAfter rest) OutputsShown :=
  hp.mono (fun t _ => h.early hi t) fun _ x => .of_resetOf x

theorem OutputsShown.keeps : Keeps OutputsShown ShownAfter where
  link _ _ h := h
  holdWord _ _ h := h
  pins _ _ h := h
  clock _ _ h := h
  por s _ := .hardReset s _ _ _
  pin s _ hr := by
    rw [State.pinLow, if_neg (by simp [hr])]
    exact .hardReset s _ _ _
  beginTick _ _ _ := .tick _
  leave s inp l h ht := by
    unfold OutputsShown
    rw [ht]
    exact h
  opened s t h ht := by
    unfold OutputsShown at h
    rw [ht] at h
    exact h
  finish s inp h := .idle rfl ((h.2.resolve_left (by simp)).endTick inp)
  linkM _ _ _ h := h
  tickM _ _ _ h := h
  countError s _ := .tick _
  act s code armed args _ := by
    generalize ho : actByCode code armed args s = o
    cases ho ▸ Steady.trivial.actByCode True.intro code armed args with
    | done _ => exact .done (.tick _)
    | reset hr => exact .reset (.of_resetOf hr)
  write _ _ _ _ _ _ := .tick _
  line _ k _ _ h _ := h.early (by simp [phase5Items]) _
  lineOff _ k _ h _ := h.early (by simp [phase5Items]) _
  sup _ _ _ h := h.early (by simp [phase5Items]) _
  safeIn _ _ _ h := h.early (by simp [phase5Items]) _
  wdg _ _ h := h.part (by simp [phase5Items]) (Steady.trivial.wdgItem True.intro)
  scrub _ _ h := h.part (by simp [phase5Items]) (Steady.trivial.scrubItem True.intro)
  clk _ _ h := h.part (by simp [phase5Items]) (Steady.trivial.clkItem True.intro)
  chan _ _ _ _ h := h.early (by simp [phase5Items]) _
  keepMarks _ _ _ h := h.early (by simp [phase5Items]) _
  commitTable _ _ _ h := h.early (by simp [phase5Items]) _
  commitChannel _ _ _ h := h.early (by simp [phase5Items]) _
  outputs s rest h := ⟨(List.suffix_cons _ _).trans h.1, .inr (.recomputed s)⟩
  irq _ _ _ h := h.late (by simp) id
  holdoff _ _ h := h.late (by simp) id

end Sys2Proof.Machine

open Sys2Proof Sys2Proof.Machine

/-- Settles O12: phase 5 comes after every part of a tick that the outputs show, and a reset recomputes them. -/
theorem outputsShowTheStateBetweenTicks : Obligations.OutputsShowTheStateBetweenTicks :=
  fun _ _ h e => OutputsShown.keeps.step (fun _ _ h => h) h e

/-- Settles O13: each relation holds of the reset state, as its invariant needs it. -/
theorem resetMeetsEveryRelation : Obligations.ResetMeetsEveryRelation := by
  obtain ⟨hc, hn⟩ := conditionersFit_iff.mpr ConditionersFit.steady.reset
  obtain ⟨ht, hi⟩ := channelsInOrder_iff.mpr ⟨ChannelsInOrder.steady.reset, Quiet.reset⟩
  exact ⟨HoldLatches.steady.reset, ht, hi, JournalFits.steady.reset, StackFits.steady.reset, PendingNotifies.steady.reset,
    SupervisorFits.steady.reset, hc, hn,
    clockFits_iff.mpr ⟨fun e => absurd rfl e, fun _ => rfl, recoveryLimit_pos⟩,
    ScrubberFits.steady.reset, .idle rfl (.hold rfl rfl rfl rfl)⟩

end

section
/-! SUPPORT. The actions that a host sends, each outcome: an action's answer is what its phase 1 step gives. -/

namespace Sys2Proof.Machine

/-- An ACTION that is taken stores the answer of its phase 1 step (R3, R160, R164). -/
theorem State.action_done {s s1 t : State} {f : Frame} {code : Byte} {args : Quad} {v : Verdict} {p : Quad}
    (h : TakenAction f code args s s1) (e : actByCode code s1.link.confirm args s1.endConfirm = .done t v p) :
    s.action f code args = t.answered f code args v p := by
  rw [State.action_taken h, e]
  rfl

/-- What a command answers that is this action: its step's state, answered. -/
theorem answers {s s1 t : State} {f : Frame} {code : Byte} {args : Quad} {v : Verdict} {p : Quad}
    (h : TakenAction f code args s s1) (e : actByCode code s1.link.confirm args s1.endConfirm = .done t v p) :
    (Host.Outcome.next (s.action f code args) : Answer) = .next (t.answered f code args v p) :=
  congrArg _ (State.action_done h e)

/-! ### Arguments -/

theorem sourceArg_none {b : Byte} (h : 22 ≤ b.toNat) : sourceArg b = none := dif_neg (Nat.not_lt.mpr h)

theorem sourceArg_some {b : Byte} {src : Source} (h : b.toNat = src.val) : sourceArg b = some src := by
  have hl : b.toNat < 22 := h ▸ src.isLt
  unfold sourceArg
  rw [dif_pos hl]
  exact congrArg some (Fin.ext h)

theorem sourceByte_of {b : Byte} {src : Source} (h : b.toNat = src.val) : sourceByte src = b := by
  unfold sourceByte
  rw [← h]
  simp

theorem levelArg_none {b : Byte} (h : 8 ≤ b.toNat) : levelArg b = none := dif_neg (Nat.not_lt.mpr h)

theorem levelArg_some {b : Byte} {n : Level} (h : b.toNat < 8) (hn : n.val = b.toNat) : levelArg b = some n := by
  unfold levelArg
  rw [dif_pos h]
  exact congrArg some (Fin.ext hn.symm)

theorem scopeArg_none {b : Byte} (h : 5 ≤ b.toNat) : scopeArg b = none := by
  unfold scopeArg
  rw [if_neg (by rintro rfl; simp at h), dif_neg (by omega)]

theorem scopeArg_some {b : Byte} {scope : Scope} (h : b.toNat = scopeCode scope) : scopeArg b = some scope := by
  have hb : b = BitVec.ofNat 8 (scopeCode scope) := by rw [← h]; simp
  subst hb
  cases scope with
  | table => rfl
  | channel k => revert k; decide

/-- A confirmed action without its confirmation (R165). -/
theorem ifConfirmed_refused {code : Byte} {args : Quad} {s1 : State} {act : State → ActOut} (s : State)
    (h : s1.link.confirm ≠ some ⟨code, args.b3⟩) :
    ifConfirmed code s1.link.confirm args s act = refuse s .notConfirmed ⟨armedCode s1, 0, 0, 0⟩ := by
  unfold ifConfirmed armedCode
  cases hc : s1.link.confirm with
  | none => rfl
  | some c => exact if_neg fun e => h (by rw [hc, ← e.1, ← e.2])

theorem ifConfirmed_passed {code : Byte} {args : Quad} {s1 : State} {act : State → ActOut} (s : State)
    (h : s1.link.confirm = some ⟨code, args.b3⟩) : ifConfirmed code s1.link.confirm args s act = act s := by
  rw [h]
  exact if_pos ⟨rfl, rfl⟩

@[simp] theorem State.endConfirm_winner (s : State) : s.endConfirm.winner = s.winner := rfl

/-- The payload of a hand-over with the source's byte (R135). -/
theorem handOverPayload_eq {b : Byte} {src : Source} (hb : sourceByte src = b) (p : Pend) :
    handOverPayload src p = match p.firstSeq with
      | some seq => ⟨b ||| 0x80, p.count, hiByte seq, loByte seq⟩
      | none => ⟨b, p.count, 0, 0⟩ := by
  unfold handOverPayload
  rw [hb]
  cases p.firstSeq with
  | none =>
    have h0 : b ||| 0 = b := BitVec.or_zero
    exact congrArg (fun x => (⟨x, p.count, 0, 0⟩ : Quad)) h0
  | some seq => rfl

/-! ### ACCEPT and CANCEL -/

section
variable {s : State} {src : Source} {p : Pend} {args : Quad}

theorem actAccept_none (h : s.winner = none) : actAccept s = .done s.countSpurious .nothing Quad.zero := by
  unfold actAccept
  rw [h]

theorem actAccept_full (h : s.winner = some src) (hp : s.arb.pend[src] = some p) (hl : 12 ≤ s.arb.stack.length) :
    actAccept s = refuse s .stackFull ⟨sourceByte src, p.count, 0, 0⟩ := by
  unfold actAccept
  simp only [h, hp]
  exact if_neg (Nat.not_lt.mpr hl)

theorem actAccept_some (h : s.winner = some src) (hp : s.arb.pend[src] = some p) (hl : s.arb.stack.length < 12) :
    actAccept s = .done (s.handOver src p) .ok (handOverPayload src p) := by
  unfold actAccept
  simp only [h, hp]
  exact if_pos hl

theorem actCancel_range (h : 22 ≤ args.b0.toNat) : actCancel args s = refuse s .range Quad.zero := by
  unfold actCancel
  rw [sourceArg_none h]

theorem actCancel_none (h : args.b0.toNat = src.val) (hp : s.arb.pend[src] = none) :
    actCancel args s = .done s .nothing ⟨args.b0, 0, 0, 0⟩ := by
  unfold actCancel
  simp only [sourceArg_some h, hp, sourceByte_of h]

theorem actCancel_some (h : args.b0.toNat = src.val) (hp : s.arb.pend[src] = some p) :
    actCancel args s = .done (s.setPend src none).countCancel .ok (handOverPayload src p) := by
  unfold actCancel
  simp only [sourceArg_some h, hp]
  rfl

end

end Sys2Proof.Machine

open Sys2Proof Sys2Proof.Machine

/-- Settles O41: the branches of ACCEPT by the winner and the room on the stack, of CANCEL by its argument. -/
theorem acceptAndCancelHandOver : Obligations.AcceptAndCancelHandOver := by
  refine ⟨fun f args s s1 h => ⟨fun hw => answers h (actAccept_none hw), fun w p hw hp hl => answers h (actAccept_full hw hp hl),
    fun w p hw hp hl => ?_⟩, fun f args s s1 h => ⟨fun hr => answers h (actCancel_range hr),
    fun src hs hp => answers h (actCancel_none hs hp), fun src p hs hp => ?_⟩⟩
  · have e := answers h (actAccept_some hw hp hl)
    rw [handOverPayload_eq rfl] at e
    exact e
  · have e := answers h (actCancel_some hs hp)
    rw [handOverPayload_eq (sourceByte_of hs)] at e
    exact e

end

section
/-! SUPPORT. The remaining actions on the service stack, the journal's head, the lock, the confirmation and the self-test. -/

namespace Sys2Proof.Machine

section
variable {s : State} {args : Quad} {e : StackEntry} {rest : List StackEntry} {n : Level}

/-! ### DONE, SET_LEVEL and HOLDOFF -/

theorem actDone_range (h : 22 ≤ args.b0.toNat) : actDone args s = refuse s .range Quad.zero := by
  unfold actDone
  rw [sourceArg_none h]

theorem actDone_empty (h : args.b0.toNat < 22) (hs : s.arb.stack = []) :
    actDone args s = .done s .stackEmpty ⟨31, levelByte s.arb.sl, 0, 0⟩ := by
  unfold actDone donePayload
  rw [sourceArg_some (src := ⟨_, h⟩) rfl]
  simp only [hs]
  rfl

theorem actDone_wrong (h : args.b0.toNat < 22) (hs : s.arb.stack = e :: rest) (hne : e.source.val ≠ args.b0.toNat) :
    actDone args s = refuse s .wrongSource
      ⟨sourceByte e.source, levelByte s.arb.sl, BitVec.ofNat 8 (rest.length + 1), 0⟩ := by
  unfold actDone donePayload
  rw [sourceArg_some (src := ⟨_, h⟩) rfl]
  simp only [hs]
  exact if_neg fun he => hne (congrArg Fin.val he)

theorem actDone_pop (hs : s.arb.stack = e :: rest) (he : e.source.val = args.b0.toNat) :
    actDone args s = .done { s with arb := { s.arb with sl := e.savedSL, stack := rest } } .ok
      ⟨args.b0, levelByte e.savedSL, BitVec.ofNat 8 rest.length, 0⟩ := by
  unfold actDone donePayload
  rw [sourceArg_some he.symm]
  simp only [hs, sourceByte_of he.symm, if_true]

theorem actSetLevel_range (h : 8 ≤ args.b0.toNat) :
    actSetLevel args s = refuse s .range (setLevelPayload s.arb.sl s.arb.sl s) := by
  unfold actSetLevel
  simp only [levelArg_none h]

theorem actSetLevel_locked (h : args.b0.toNat < 8)
    (hl : 8 ≤ s.arb.sl.val ∨ (s.arb.nestOff = true ∧ s.arb.stack ≠ [])) :
    actSetLevel args s = refuse s .levelLocked (setLevelPayload s.arb.sl s.arb.sl s) := by
  unfold actSetLevel
  simp only [levelArg_some (n := ⟨_, Nat.lt_trans h (by decide)⟩) h rfl]
  exact if_pos hl

theorem actSetLevel_sets (h : args.b0.toNat < 8) (hn : n.val = args.b0.toNat) (hs : s.arb.sl.val < 8)
    (ho : s.arb.nestOff = false ∨ s.arb.stack = []) :
    actSetLevel args s = .done { s with arb := { s.arb with sl := n } } .ok (setLevelPayload n s.arb.sl s) := by
  have hl : ¬ (8 ≤ s.arb.sl.val ∨ (s.arb.nestOff = true ∧ s.arb.stack ≠ [])) := by
    rintro (h8 | ⟨hoff, hst⟩)
    · omega
    · rcases ho with ho | ho
      · simp [ho] at hoff
      · exact hst ho
  unfold actSetLevel
  simp only [levelArg_some h hn]
  exact if_neg hl

end

/-! ### LOCK, UNLOCK, CONFIRM and SELFTEST -/

theorem State.setLocked_self {s : State} {b : Bool} (h : s.staging.locked = b) : s.setLocked b = s := by
  subst h
  rfl

theorem actLock_eq (s : State) :
    actLock s = .done (s.setLocked true) (if s.staging.locked then .nothing else .ok) Quad.zero := by
  unfold actLock
  cases h : s.staging.locked with
  | true => rw [if_pos rfl, if_pos rfl, State.setLocked_self h]
  | false => rfl

theorem actUnlock_passed {s s1 : State} {args : Quad} (h : s1.link.confirm = some ⟨16, args.b3⟩) :
    actUnlock s1.link.confirm args s =
      .done (s.setLocked false) (if s.staging.locked then .ok else .nothing) Quad.zero := by
  unfold actUnlock
  rw [ifConfirmed_passed s h]
  cases hl : s.staging.locked with
  | true => rfl
  | false => simp [State.setLocked_self hl]

theorem actUnlock_refused {s s1 : State} {args : Quad} (h : s1.link.confirm ≠ some ⟨16, args.b3⟩) :
    actUnlock s1.link.confirm args s = refuse s .notConfirmed ⟨armedCode s1, 0, 0, 0⟩ := ifConfirmed_refused s h

theorem isConfirmedCode_iff {c : Byte} : isConfirmedCode c = true ↔ c = 11 ∨ c = 16 ∨ c = 18 ∨ c = 19 := by
  simp only [isConfirmedCode, Bool.or_eq_true, beq_iff_eq, or_assoc]

theorem actSelftest_refused {s s1 : State} {args : Quad} (h : s1.link.confirm ≠ some ⟨19, args.b3⟩) :
    actSelftest s1.link.confirm args s = refuse s .notConfirmed ⟨armedCode s1, 0, 0, 0⟩ := ifConfirmed_refused s h

theorem actSelftest_invalid {s s1 : State} {args : Quad} (h : s1.link.confirm = some ⟨19, args.b3⟩)
    (hv : s.staging.tableValid = false) : actSelftest s1.link.confirm args s = refuse s .notValid Quad.zero := by
  unfold actSelftest
  rw [ifConfirmed_passed s h, hv]
  rfl

theorem actSelftest_valid {s s1 : State} {args : Quad} (h : s1.link.confirm = some ⟨19, args.b3⟩)
    (hv : s.staging.tableValid = true) :
    actSelftest s1.link.confirm args s = .done { s with scrub := { s.scrub with ref := ~~~s.scrub.ref } } .ok
      ⟨hiByte (~~~s.scrub.ref), loByte (~~~s.scrub.ref), BitVec.ofNat 8 s.scrub.position.val, 0⟩ := by
  unfold actSelftest
  rw [ifConfirmed_passed s h, hv]
  rfl

/-! ### JOURNAL_POP -/

section
variable {s : State} {args : Quad} {r : Rec} {rest : List Rec}

theorem actJournalPop_empty (h : s.journal.queue = []) : actJournalPop args s = .done s .nothing Quad.zero := by
  unfold actJournalPop
  rw [h]

theorem actJournalPop_mismatch (h : s.journal.queue = r :: rest) (hne : r.seq ≠ word01 args) :
    actJournalPop args s = refuse s .seqMismatch (popPayload r.seq (rest.length + 1)) := by
  unfold actJournalPop
  simp only [h]
  exact if_neg hne

theorem actJournalPop_pops (h : s.journal.queue = r :: rest) (he : r.seq = word01 args) :
    actJournalPop args s =
      .done { s with journal := { s.journal with queue := rest } } .ok (popPayload r.seq rest.length) := by
  unfold actJournalPop
  simp only [h]
  exact if_pos he

end

theorem hiByte_wordOf (a b : Byte) : hiByte (wordOf a b) = a := BitVec.extractLsb'_append_eq_left

theorem loByte_wordOf (a b : Byte) : loByte (wordOf a b) = b := BitVec.extractLsb'_append_eq_right

/-! ### Codes without an action -/

theorem actByCode_unknown {code : Byte} (h : code = 0 ∨ 21 < code.toNat) (armed : Option Confirmation) (args : Quad)
    (s : State) : actByCode code armed args s = .done s .badKind Quad.zero := by
  have hn : code.toNat = 0 ∨ 21 < code.toNat := h.imp (fun e => by rw [e]; rfl) id
  unfold actByCode
  split
  case h_22 => rfl
  all_goals omega

end Sys2Proof.Machine

open Sys2Proof Sys2Proof.Machine

/-- Settles O42: the branches of the three actions; HOLDOFF compares words as numbers. -/
theorem serviceActions : Obligations.ServiceActions := by
  refine ⟨fun f args s s1 h => ⟨fun hr => answers h (actDone_range hr),
      fun hb hs => answers h (actDone_empty hb hs),
      fun e rest hb hs hne => answers h (actDone_wrong hb hs hne),
      fun e rest hs he => answers h (actDone_pop hs he)⟩,
    fun f args s s1 h sl depth off hsl hdepth hoff => ?_, fun f args s s1 h n hd hn hhd => ?_⟩
  · subst hsl hdepth hoff
    refine ⟨fun hr => answers h (actSetLevel_range hr), fun hb hl => answers h (actSetLevel_locked hb hl),
      fun n hb hn hs ho => ?_⟩
    have hp : levelByte n = args.b0 := by simp [levelByte, hn]
    rw [← hp]
    exact answers h (actSetLevel_sets hb hn hs ho)
  · subst hn hhd
    exact answers h rfl

/-- Settles O49: the branches of JOURNAL_POP by the head that it finds. -/
theorem journalPopNamesTheHead : Obligations.JournalPopNamesTheHead := by
  intro f args s s1 h
  refine ⟨fun he => answers h (actJournalPop_empty he), fun r rest hq hne => answers h (actJournalPop_mismatch hq hne),
    fun r rest hq he => ?_⟩
  have e := answers h (actJournalPop_pops (s := s1.endConfirm) hq he)
  rw [he, popPayload, hiByte_wordOf, loByte_wordOf] at e
  exact e

/-- Settles O52: LOCKED set or cleared leaves a lock that stands already; a confirmation is armed for four codes. -/
theorem lockUnlockAndConfirm : Obligations.LockUnlockAndConfirm := by
  refine ⟨fun f args s s1 h => answers h (actLock_eq _), fun f args s s1 h => ⟨fun hc => answers h (actUnlock_passed hc),
    fun hc => answers h (actUnlock_refused hc)⟩, fun f args s s1 h => ⟨fun hc ch hch => ?_, fun hc => ?_⟩⟩
  · subst hch
    exact answers h (if_pos (isConfirmedCode_iff.mpr hc))
  · refine answers h (if_neg fun hi => ?_)
    have := isConfirmedCode_iff.mp hi
    tauto

/-- Settles O54: SELFTEST by its confirmation and table-valid. -/
theorem selftestComplementsTheReference : Obligations.SelftestComplementsTheReference := by
  intro f args s s1 h
  exact ⟨fun hc => answers h (actSelftest_refused hc), fun hc hv => answers h (actSelftest_invalid hc hv),
    fun hc hv => answers h (actSelftest_valid hc hv)⟩

/-- Settles O57: no code outside 1 to 21 has an action. -/
theorem unknownCodesAreBadKind : Obligations.UnknownCodesAreBadKind :=
  fun _ _ _ _ _ h hc => answers h (actByCode_unknown hc _ _ _)

end

section
/-! SUPPORT. What an assertion event, a raise of a hard critical and the arming of a scope leave, said whole. -/

namespace Sys2Proof.Machine

theorem latchEntry_eq (c : Chan) : latchEntry c = c.latchCause := by
  unfold latchEntry Chan.latchCause
  cases c.st <;> rfl

theorem cycleEntry_eq (c : Chan) : cycleEntry c = c.cycleCause := by
  unfold cycleEntry Chan.cycleCause
  cases c.st <;> rfl

variable (s : State)

/-! ### Assertion events -/

/-- The state before the Assert record of an assertion event: channels and Safe-Hold (R14, R62, R99). -/
def State.tripped (src : Source) (x : Contribution) : State :=
  let s1 := s.mapChans x.appearsOn
  if x.cls = .safe then s1.addCause .source (some src) else s1

theorem State.asserted_tripped (src : Source) (x : Contribution) (b : Bool) :
    s.asserted src x b =
      let u := s.tripped src x
      let o := if b then u.offer (u.assertBody src x.mask x.cls x.level none) else (u, none)
      if x.level = 0 then o.1 else o.1.occur src o.2 := rfl

/-- The channels after an assertion, by its class (Table 2-3). -/
theorem trippedTo_eq (x : Contribution) (k : Channel) (causes : BitVec 6) (c : Chan) :
    (if x.cls = .safe ∧ causes = 0 then (x.appearsOn k c).latchCause else x.appearsOn k c) = trippedTo causes x k c := by
  unfold trippedTo Contribution.appearsOn
  rw [latchEntry_eq, cycleEntry_eq]
  cases x.cls <;> cases x.mask.getLsbD k.val <;> simp

theorem State.tripped_journal (src : Source) (x : Contribution) : (s.tripped src x).journal = assertBase s src x := by
  unfold State.tripped assertBase
  by_cases hs : x.cls = .safe
  · simp only [hs, if_true, true_and, State.addCause_journal]
    rfl
  · simp [hs]

theorem State.tripped_time (src : Source) (x : Contribution) : (s.tripped src x).time = s.time := by
  unfold State.tripped
  by_cases hs : x.cls = .safe <;> simp [hs]

theorem State.tripped_pend_ne {src a : Source} (x : Contribution) (h : a ≠ jth) :
    (s.tripped src x).arb.pend[a.val] = s.arb.pend[a.val] := by
  unfold State.tripped
  by_cases hs : x.cls = .safe
  · simp [hs, State.addCause_pend_ne _ _ _ h]
  · simp [hs]

theorem State.tripped_offer (src : Source) (x : Contribution) :
    (s.tripped src x).journal.offer ((s.tripped src x).assertBody src x.mask x.cls x.level none) = assertOffer s src x := by
  unfold State.assertBody assertOffer
  rw [s.tripped_journal, s.tripped_time]

theorem State.asserted_journal (src : Source) (x : Contribution) (b : Bool) :
    (s.asserted src x b).journal = if b then (assertOffer s src x).journal else assertBase s src x := by
  rw [← s.tripped_offer src x, ← s.tripped_journal src x, s.asserted_tripped]
  cases b <;> by_cases hl : x.level = 0 <;> simp [hl]

theorem State.asserted_pend {src : Source} (x : Contribution) (b : Bool) (h : src ≠ jth) :
    (s.asserted src x b).arb.pend[src.val] = assertPend s src x b := by
  have hp := s.tripped_pend_ne (src := src) x h
  have ho := fun r => State.offer_pend_ne (s.tripped src x) r h
  have hq : ∀ r, ((s.tripped src x).offer r).2 = ((s.tripped src x).journal.offer r).seq := fun _ => rfl
  unfold assertPend
  rw [← s.tripped_offer src x, s.asserted_tripped]
  by_cases hl : x.level = 0
  · cases b <;> simp [hl, hp, ho]
  · cases b <;> simp only [hl, if_true, if_false, Bool.false_eq_true, State.occur_pend, hp, ho, hq, Fin.getElem_fin] <;>
      cases s.arb.pend[src.val] <;> rfl

/-- What an assertion event leaves (R29, Table 2-3). -/
theorem State.asserted_asserts {src : Source} (x : Contribution) (b : Bool) (h : src ≠ jth) :
    Asserts src x b s (s.asserted src x b) :=
  ⟨fun k => (s.asserted_chan src x b k).trans (trippedTo_eq x k s.causes _), s.asserted_causes src x b,
    s.asserted_journal src x b, s.asserted_pend x b h, fun _ hb hj => s.asserted_pend_ne src x b hb hj,
    congrArg State.arb (s.asserted_eq src x b)⟩

/-- An assertion event changes the channels, the cause set, the journal and the arbiter alone. -/
theorem State.asserted_blocks (src : Source) (x : Contribution) (b : Bool) :
    s.asserted src x b = { s with
      chans := (s.asserted src x b).chans, causes := (s.asserted src x b).causes
      journal := (s.asserted src x b).journal, arb := (s.asserted src x b).arb } := by
  have ha := congrArg State.arb (s.asserted_eq src x b)
  rw [ha]
  exact s.asserted_eq src x b

/-- An assertion event does not depend on the blocks that it leaves. -/
theorem Asserts.congr {src : Source} {x : Contribution} {b : Bool} {s s' t : State} (h : Asserts src x b s t)
    (hc : s.chans = s'.chans) (hcs : s.causes = s'.causes) (hj : s.journal = s'.journal) (ha : s.arb = s'.arb)
    (ht : s.time = s'.time) : Asserts src x b s' t := by
  unfold Asserts assertPend assertOffer assertBase at h ⊢
  rw [← hc, ← hcs, ← hj, ← ha, ← ht]
  exact h

/-! ### Raises of hard criticals -/

theorem State.raised_eq (src : Source) (c : Cause) :
    s.raised src c = { s with
      causes := s.causes ||| c.bits, chans := (s.raised src c).chans, journal := (s.raised src c).journal
      arb := { s.arb with pend := (s.raised src c).arb.pend } } := by
  unfold State.raised
  dsimp only
  rw [State.occur_eq, State.offer_eq, s.addCause_eq]

/-- What a raise of TBL or CLK leaves before its conflict check (R145). -/
theorem State.raised_raises {src : Source} (c : Cause) {level : Level} (h : src ≠ jth) (hl : s.effLevel src = level) :
    Raises src c level s (s.raised src c) := by
  have hlev : (s.addCause c none).effLevel src = level := hl ▸ State.effLevel_congr (by simp) src
  have hb : (s.addCause c none).journal = raiseBase s c := s.addCause_journal c none
  have ho : (s.addCause c none).journal.offer
      ((s.addCause c none).assertBody src 0xF .safe ((s.addCause c none).effLevel src) none) = raiseOffer s src c level := by
    rw [hb, hlev]
    simp [State.assertBody, raiseOffer]
  refine ⟨fun k => ?_, congrArg State.causes (s.raised_eq src c), ?_, ?_, fun b hbs hbj => ?_,
    congrArg State.arb (s.raised_eq src c)⟩
  · simp [State.raised]
  · rw [← ho]
    simp [State.raised]
  · have hp := s.addCause_pend_ne c none h
    have hq : ∀ u : State, ∀ r, (u.offer r).2 = (u.journal.offer r).seq := fun _ _ => rfl
    rw [← ho]
    unfold State.raised
    simp only [Fin.getElem_fin, State.occur_pend, State.offer_pend_ne _ _ h, hp, hq] <;> rfl
  · have hp := s.addCause_pend_ne c none hbj
    unfold State.raised
    simp only [Fin.getElem_fin, State.occur_pend_ne _ _ hbs, State.offer_pend_ne _ _ hbj, hp]

/-- A raise leaves what is unserved of the other hard critical as it was. -/
theorem State.raised_unserved {src other : Source} (c : Cause) (h : other ≠ src) (hj : other ≠ jth) :
    (s.raised src c).unserved other = s.unserved other := by
  refine State.unserved_congr _ ?_ ?_
  · unfold State.raised
    simp only [State.occur_pend_ne _ _ h, State.offer_pend_ne _ _ hj, State.addCause_pend_ne _ _ _ hj]
  · rw [s.raised_eq src c]

/-! ### Drops -/

theorem State.dropped_true (src : Source) (x : Contribution) (d : Bool) :
    s.dropped src x true d = s.record ⟨.clear d, some src, x.mask, none, s.time.tstamp⟩ := rfl

theorem State.dropped_false (src : Source) (x : Contribution) (d : Bool) : s.dropped src x false d = s := rfl

/-! ### Armed scopes -/

theorem setArmed_getLsbD (m : BitVec 4) (j k : Channel) (on : Bool) :
    (setArmed m k on).getLsbD j.val = if j = k then on else m.getLsbD j.val := by
  revert m j k on; decide +kernel

theorem State.arm_eq (scope : Scope) (mark : Channel) :
    s.arm scope mark = { s with staging := (s.arm scope mark).staging } := by cases scope <;> rfl

theorem State.arm_staging (scope : Scope) (mark : Channel) :
    (s.arm scope mark).staging = { s.staging with
      armedTable := (s.arm scope mark).staging.armedTable, armedCh := (s.arm scope mark).staging.armedCh } := by
  cases scope <;> rfl

theorem State.disarm_eq (scope : Scope) : s.disarm scope = { s with staging := (s.disarm scope).staging } := by
  cases scope <;> rfl

theorem State.disarm_staging (scope : Scope) :
    (s.disarm scope).staging = { s.staging with
      armedTable := (s.disarm scope).staging.armedTable, armedCh := (s.disarm scope).staging.armedCh } := by
  cases scope <;> rfl

/-- A CHANNEL scope is armed to its own channel (R44, R46). -/
theorem State.arm_armed {scope : Scope} {mark : Channel} (h : ∀ k, scope = .channel k → mark = k) :
    (s.arm scope mark).staging.armed scope = some mark := by
  cases scope with
  | table => rfl
  | channel k =>
    obtain rfl := h k rfl
    simp [State.arm, Staging.armed, setArmed_getLsbD]

theorem State.arm_armed_ne {scope other : Scope} (mark : Channel) (h : other ≠ scope) :
    (s.arm scope mark).staging.armed other = s.staging.armed other := by
  cases scope with
  | table =>
    cases other with
    | table => exact absurd rfl h
    | channel j => rfl
  | channel k =>
    cases other with
    | table => rfl
    | channel j =>
      have hj : j ≠ k := fun e => h (congrArg Scope.channel e)
      simp only [State.arm, Staging.armed, setArmed_getLsbD, if_neg hj]

theorem State.disarm_armed (scope : Scope) : (s.disarm scope).staging.armed scope = none := by
  cases scope with
  | table => rfl
  | channel k => simp only [State.disarm, Staging.armed, setArmed_getLsbD, if_true, Bool.false_eq_true, if_false]

theorem State.disarm_armed_ne {scope other : Scope} (h : other ≠ scope) :
    (s.disarm scope).staging.armed other = s.staging.armed other := by
  cases scope with
  | table =>
    cases other with
    | table => exact absurd rfl h
    | channel j => rfl
  | channel k =>
    cases other with
    | table => rfl
    | channel j =>
      have hj : j ≠ k := fun e => h (congrArg Scope.channel e)
      simp only [State.disarm, Staging.armed, setArmed_getLsbD, if_neg hj]

end Sys2Proof.Machine
end

section
/-! SUPPORT. The actions on commits, on Safe-Hold, on the supervisor and on the device: COMMIT, ABORT_COMMIT, FORCE_SAFE,
EXIT_SAFE, KEEPALIVE, WDG_ARM and RESET_DEVICE, each outcome. -/

namespace Sys2Proof.Machine

/-! ### COMMIT and ABORT_COMMIT -/

section
variable {s : State} {args : Quad} {scope : Scope} {timing : Option Channel} {m : Channel}

theorem actCommit_range (h : commitArgs args = none) : actCommit args s = refuse s .range Quad.zero := by
  unfold actCommit
  rw [h]

theorem actCommit_checked (h : commitArgs args = some (scope, timing)) :
    actCommit args s = commitChecked scope timing args s := by
  unfold actCommit
  rw [h]

/-- A CHANNEL scope is armed to its own channel (R44). -/
theorem commitArgs_mark {k : Channel} (h : commitArgs args = some (.channel k, some m)) : m = k := by
  unfold commitArgs at h
  split at h
  · split at h
    · split at h <;> grind
    · grind
  · cases h

theorem commitChecked_busy (h : s.staging.armed scope = some m) :
    commitChecked scope timing args s = .done s .shadowBusy ⟨args.b0, channelByte m, 0, 0⟩ := by
  unfold commitChecked
  rw [h]

theorem commitChecked_crc (h : s.staging.armed scope = none) (hc : s.shadowCrc scope ≠ word23 args) :
    commitChecked scope timing args s =
      refuse s .commitCrc ⟨0, 0, hiByte (s.shadowCrc scope), loByte (s.shadowCrc scope)⟩ := by
  unfold commitChecked
  simp only [h]
  exact if_pos hc.symm

theorem commitChecked_now (h : s.staging.armed scope = none) (hc : s.shadowCrc scope = word23 args) :
    commitChecked scope none args s = .done (s.applyCommit scope) .ok ⟨args.b0, 0, args.b2, args.b3⟩ := by
  unfold commitChecked
  simp only [h, hc, ne_eq, not_true_eq_false, if_false, word23, hiByte_wordOf, loByte_wordOf]

theorem commitChecked_arms (h : s.staging.armed scope = none) (hc : s.shadowCrc scope = word23 args) :
    commitChecked scope (some m) args s = .done (s.arm scope m) .ok ⟨args.b0, 1, args.b2, args.b3⟩ := by
  unfold commitChecked
  simp only [h, hc, ne_eq, not_true_eq_false, if_false, word23, hiByte_wordOf, loByte_wordOf]

theorem actAbortCommit_range (h : 5 ≤ args.b0.toNat) : actAbortCommit args s = refuse s .range Quad.zero := by
  unfold actAbortCommit
  rw [scopeArg_none h]

theorem actAbortCommit_idle (h : args.b0.toNat = scopeCode scope) (ha : s.staging.armed scope = none) :
    actAbortCommit args s = .done s .nothing Quad.zero := by
  unfold actAbortCommit
  simp only [scopeArg_some h, ha]

theorem actAbortCommit_disarms (h : args.b0.toNat = scopeCode scope) (ha : s.staging.armed scope = some m) :
    actAbortCommit args s = .done (s.disarm scope) .ok ⟨channelByte m, 0, 0, 0⟩ := by
  unfold actAbortCommit
  simp only [scopeArg_some h, ha]

end

/-! ### Safe-Hold -/

theorem actForceSafe_eq (s : State) :
    actForceSafe s = .done (s.addCause .forced none) .ok
      ⟨(s.causes ||| 0x10).setWidth 8, if s.causes = 0 then 1 else 0, 0, 0⟩ := by
  have hb : bit 8 (!s.inHold) = if s.causes = 0 then 1 else 0 := by
    unfold bit State.inHold
    by_cases h : s.causes = 0 <;> simp [h]
  unfold actForceSafe causeByte
  dsimp only
  rw [State.addCause_causes, hb]
  rfl

/-- The mask of the exit conditions (a) to (e) that fail (R106). -/
def exitMask (a b c d e : Bool) : Byte :=
  (if a then 0x01 else 0) ||| (if b then 0x02 else 0) ||| (if c then 0x04 else 0) ||| (if d then 0x08 else 0) |||
  (if e then 0x10 else 0)

theorem exitMask_bits : ∀ a b c d e : Bool,
    (exitMask a b c d e).getLsbD 0 = a ∧ (exitMask a b c d e).getLsbD 1 = b ∧ (exitMask a b c d e).getLsbD 2 = c ∧
    (exitMask a b c d e).getLsbD 3 = d ∧ (exitMask a b c d e).getLsbD 4 = e ∧ (exitMask a b c d e).toNat < 32 := by
  decide

theorem State.exitFailing_eq (s : State) :
    s.exitFailing = exitMask (!s.staging.tableValid) (decide (s.clk.seen ≠ .good)) s.safeIn.isActive
      (s.held.any fun x => x.cls == .safe) (s.unserved tblSrc || s.unserved clkSrc) := by
  unfold State.exitFailing exitMask
  congr 4
  · cases s.staging.tableValid <;> rfl
  · by_cases h : s.clk.seen = .good <;> simp [h]

theorem Cond.isActive_iff (c : Cond) : c.isActive = true ↔ c = .asserted ∨ ∃ n limit, c = .releasing n limit := by
  cases c <;> simp [Cond.isActive]

theorem State.unserved_iff {s : State} {src : Source} :
    s.unserved src = true ↔ (∃ p, s.arb.pend[src] = some p) ∨ ∃ e ∈ s.arb.stack, e.source = src := by
  simp [State.unserved, State.isPending, State.onStack, Option.isSome_iff_exists, List.any_eq_true]

section
variable {s : State} {args : Quad}

theorem exitChecked_range (h : 64 ≤ args.b0.toNat) :
    exitChecked args s = refuse s .range ⟨causeByte s.causes, s.exitFailing, 0, 0⟩ := if_pos h

theorem exitChecked_nothing (h : args.b0.toNat < 64) (hc : s.causes = 0) :
    exitChecked args s = .done s .nothing Quad.zero := by
  unfold exitChecked
  simp only [Nat.not_le.mpr h, if_false, hc, if_true]
  rfl

theorem exitChecked_echo (h : args.b0.toNat < 64) (hc : s.causes ≠ 0) (he : args.b0 ≠ causeByte s.causes) :
    exitChecked args s = refuse s .echoMismatch ⟨causeByte s.causes, s.exitFailing, 0, 0⟩ := by
  unfold exitChecked
  simp only [Nat.not_le.mpr h, if_false, hc]
  exact if_pos he

theorem causeByte_lt (c : BitVec 6) : (causeByte c).toNat < 64 := by
  unfold causeByte
  rw [BitVec.toNat_setWidth]
  have := c.isLt
  omega

theorem exitChecked_blocked (hc : s.causes ≠ 0) (he : args.b0 = causeByte s.causes) (hf : s.exitFailing ≠ 0) :
    exitChecked args s = refuse s .exitBlocked ⟨causeByte s.causes, s.exitFailing, 0, 0⟩ := by
  have h := causeByte_lt s.causes
  unfold exitChecked
  simp only [he, Nat.not_le.mpr h, if_false, hc, ne_eq, not_true_eq_false]
  exact if_pos hf

theorem exitChecked_exits (hc : s.causes ≠ 0) (he : args.b0 = causeByte s.causes) (hf : s.exitFailing = 0) :
    exitChecked args s = .done s.exitHold .ok ⟨causeByte s.causes, 0, 0, 0⟩ := by
  have h := causeByte_lt s.causes
  unfold exitChecked
  simp only [he, Nat.not_le.mpr h, if_false, hc, ne_eq, not_true_eq_false, hf]

theorem actExitSafe_refused {s1 : State} (h : s1.link.confirm ≠ some ⟨11, args.b3⟩) :
    actExitSafe s1.link.confirm args s = refuse s .notConfirmed ⟨armedCode s1, 0, 0, 0⟩ := ifConfirmed_refused s h

theorem actExitSafe_passed {s1 : State} {o : ActOut} (h : s1.link.confirm = some ⟨11, args.b3⟩)
    (e : exitChecked args s = o) : actExitSafe s1.link.confirm args s = o := (ifConfirmed_passed s h).trans e

end

/-! ### The supervisor -/

section
variable {s : State} {args : Quad}

theorem actKeepalive_off (h : s.wdg.st = .off) :
    actKeepalive args s = .done s (.refused .notArmed) ⟨0, s.wdg.token, args.b0, 0⟩ := by
  unfold actKeepalive keepaliveStep keepalivePayload
  simp only [h]
  rfl

theorem lapseNow_wdg : s.lapseNow.wdg =
    { s.wdg with st := .lapsed, timer := 0, length := s.wdg.ow, fresh := true, lnk := some (s.capture lnkSrc 9) } := by
  unfold State.lapseNow State.raiseLnk
  simp only [State.asserted_frame]
  rfl

theorem State.lapseNow_eq : s.lapseNow =
    ({ s with wdg := { s.wdg with
        st := .lapsed, timer := 0, length := s.wdg.ow, fresh := true, lnk := some (s.capture lnkSrc 9) } } : State).asserted
      lnkSrc (s.capture lnkSrc 9) true := rfl

/-- A KEEPALIVE that lapses the supervisor: early, or in OPEN with a wrong token (Table 9-2). -/
theorem actKeepalive_lapses {why : Reason} {code : Byte} (h : (s.wdg.st = .closed ∧ why = .early ∧ code = (1 : Byte)) ∨
    (s.wdg.st = .opened ∧ args.b0 ≠ s.wdg.token ∧ why = .badToken ∧ code = 2)) :
    actKeepalive args s = .done s.lapseNow (.refused why) ⟨3, s.wdg.token, args.b0, code⟩ := by
  unfold actKeepalive keepaliveStep keepalivePayload
  rcases h with ⟨hs, rfl, rfl⟩ | ⟨hs, ht, rfl, rfl⟩
  · simp only [hs, lapseNow_wdg]
    rfl
  · simp only [hs, ht, if_false, lapseNow_wdg]
    rfl

theorem actKeepalive_accepted (h : s.wdg.st = .opened) (ht : args.b0 = s.wdg.token) :
    actKeepalive args s = .done { s with wdg := s.wdg.accepted } .ok ⟨1, s.wdg.token + 1, args.b0, 2⟩ := by
  unfold actKeepalive keepaliveStep keepalivePayload
  simp only [h, ht, if_true]
  rfl

theorem actKeepalive_lapsed (h : s.wdg.st = .lapsed) (ht : args.b0 ≠ s.wdg.token) :
    actKeepalive args s = .done s (.refused .badToken) ⟨3, s.wdg.token, args.b0, 3⟩ := by
  unfold actKeepalive keepaliveStep keepalivePayload
  simp only [h, ht, if_false]
  rfl

theorem State.clearLnk_held {x : Contribution} (h : s.wdg.lnk = some x) :
    s.clearLnk = ({ s with wdg := { s.wdg with lnk := none } } : State).record
      ⟨.clear false, some lnkSrc, x.mask, none, s.time.tstamp⟩ := by
  unfold State.clearLnk
  simp only [h]
  rfl

theorem actKeepalive_clears {x : Contribution} (h : s.wdg.st = .lapsed) (ht : args.b0 = s.wdg.token)
    (hx : s.wdg.lnk = some x) :
    actKeepalive args s = .done (({ s with wdg := { s.wdg.accepted with lnk := none } } : State).record
      ⟨.clear false, some lnkSrc, x.mask, none, s.time.tstamp⟩) .ok ⟨1, s.wdg.token + 1, args.b0, 3⟩ := by
  have hc := State.clearLnk_held (s := { s with wdg := s.wdg.accepted }) hx
  unfold actKeepalive keepaliveStep keepalivePayload
  simp only [h, ht, if_true, hc, State.record_frame]
  rfl

theorem actWdgArm_arms (h : s.wdg.st = .off) :
    actWdgArm s = .done { s with wdg := { s.wdg.enterClosed true with token := 0 } } .ok ⟨1, 0, 0, 0⟩ := by
  unfold actWdgArm
  simp only [h]
  rfl

theorem actWdgArm_armed (h : s.wdg.st ≠ .off) :
    actWdgArm s = refuse s .alreadyArmed ⟨s.wdg.st.code, s.wdg.token, 0, 0⟩ := by
  unfold actWdgArm
  split
  · exact absurd ‹_› h
  · rfl

end

end Sys2Proof.Machine

open Sys2Proof Sys2Proof.Machine

/-- Settles O43: the checks of COMMIT in order; what applies is the commit's own law. -/
theorem commitChecksThenApplies : Obligations.CommitChecksThenApplies := by
  refine fun f args s s1 h => ⟨fun hn => answers h (actCommit_range hn), fun scope timing ha =>
    ⟨fun m hm => answers h ((actCommit_checked ha).trans (commitChecked_busy hm)), fun hi crc hc hne => ?_,
      fun hi hc ht => ?_, fun hi hc m ht => ?_⟩⟩
  · subst hc
    exact answers h ((actCommit_checked ha).trans (commitChecked_crc hi hne))
  · subst ht
    refine ⟨_, answers h ((actCommit_checked ha).trans (commitChecked_now hi hc)), fun hs => ?_, fun k hs => ?_⟩
    · subst hs
      exact State.applyCommit_table _
    · subst hs
      exact State.applyCommit_channel _ k
  · subst ht
    exact ⟨_, answers h ((actCommit_checked ha).trans (commitChecked_arms hi hc)), State.arm_eq _ _ _,
      State.arm_armed _ fun k hk => commitArgs_mark (hk ▸ ha), fun other ho => State.arm_armed_ne _ _ ho,
      State.arm_staging _ _ _⟩

/-- Settles O44: ABORT_COMMIT by its scope and by what is armed there. -/
theorem abortCommitDisarms : Obligations.AbortCommitDisarms :=
  fun _ _ _ _ h => ⟨fun hr => answers h (actAbortCommit_range hr),
    fun _ hs ha => answers h (actAbortCommit_idle hs ha),
    fun scope _ hs ha => ⟨_, answers h (actAbortCommit_disarms hs ha), State.disarm_eq _ _, State.disarm_armed _ _,
      fun _ ho => State.disarm_armed_ne _ ho, State.disarm_staging _ scope⟩⟩

/-- Settles O47: FORCE_SAFE adds a cause, which a cause's own law gives. -/
theorem forceSafeAddsForced : Obligations.ForceSafeAddsForced :=
  fun _ _ _ s1 h => ⟨_, answers h (actForceSafe_eq s1.endConfirm), State.addCause_eq _ _ _,
    State.addCause_chan _ _ _, fun _ hb => State.addCause_pend_ne _ _ _ hb, State.addCause_journal _ _ _⟩

/-- Settles O48: the five conditions as five bits, and the checks of EXIT_SAFE in order. -/
theorem exitSafeIsInterlocked : Obligations.ExitSafeIsInterlocked := by
  refine ⟨fun s m hm => ?_, fun f args s s1 h => ⟨fun hc => answers h (actExitSafe_refused hc),
    fun hc set failing hset hfail => ?_⟩⟩
  · rw [s.exitFailing_eq] at hm
    subst hm
    obtain ⟨ha, hb, hc, hd, he, hlt⟩ := exitMask_bits (!s.staging.tableValid) (decide (s.clk.seen ≠ .good))
      s.safeIn.isActive (s.held.any fun x => x.cls == .safe) (s.unserved tblSrc || s.unserved clkSrc)
    rw [ha, hb, hc, hd, he]
    refine ⟨by simp, by simp, Cond.isActive_iff _, ?_, ?_, hlt⟩
    · simp only [List.any_eq_true, beq_iff_eq, State.mem_held, and_comm]
    · simp only [Bool.or_eq_true, State.unserved_iff, or_and_right, exists_or, exists_eq_left]
  · subst hset hfail
    refine ⟨fun hr => answers h (actExitSafe_passed hc (exitChecked_range hr)),
      fun hr hz => answers h (actExitSafe_passed hc (exitChecked_nothing hr hz)),
      fun hr hz he => answers h (actExitSafe_passed hc (exitChecked_echo hr hz he)),
      fun hz he hf => answers h (actExitSafe_passed hc (exitChecked_blocked hz he hf)),
      fun hz he hf => ⟨_, answers h (actExitSafe_passed hc (exitChecked_exits hz he hf)), State.record_eq _ _,
        fun b hb => State.record_pend_ne _ _ hb⟩⟩

/-- Settles O51: KEEPALIVE and WDG_ARM by the supervisor's state and the token. -/
theorem keepaliveByState : Obligations.KeepaliveByState := by
  refine ⟨fun f args s s1 h => ⟨fun hs => answers h (actKeepalive_off hs), fun st v code hs hv => ?_,
    fun hs ht => answers h (actKeepalive_accepted hs ht), fun hs ht => answers h (actKeepalive_lapsed hs ht),
    fun hs ht x hx => ?_⟩, fun f args s s1 h => ⟨fun hs => answers h (actWdgArm_arms hs),
    fun hs => answers h (actWdgArm_armed hs)⟩⟩
  · subst hv
    refine ⟨_, answers h (actKeepalive_lapses hs), ?_, fun x hx => ?_⟩
    · rw [lapseNow_wdg, State.lapseNow_eq]
      exact State.asserted_blocks _ _ _ _
    · subst hx
      refine ⟨lapseNow_wdg, ?_⟩
      rw [State.lapseNow_eq]
      exact (State.asserted_asserts _ _ _ (by decide)).congr rfl rfl rfl rfl rfl
  · exact ⟨_, answers h (actKeepalive_clears hs ht hx), State.record_eq _ _, fun b hb => State.record_pend_ne _ _ hb⟩

end

section
/-! SUPPORT. The actions on the channels and on the whole device: CLEAR_LATCH, FORCE_TRIP and RESET_DEVICE. -/

namespace Sys2Proof.Machine

/-! ### Masks -/

theorem maskWhere_getLsbD (p : Channel → Bool) (k : Channel) : (maskWhere p).getLsbD k.val = p k := by
  have h : ∀ (a b c d : Bool) (i : Fin 4),
      (bit 4 a ||| (bit 4 b <<< 1) ||| (bit 4 c <<< 2) ||| (bit 4 d <<< 3)).getLsbD i.val = [a, b, c, d].get i := by
    decide
  unfold maskWhere
  rw [h]
  fin_cases k <;> rfl

theorem maskArg_none {b : Byte} (h : 16 ≤ b.toNat) : maskArg b = none := if_neg (Nat.not_lt.mpr h)

theorem maskArg_some {b : Byte} (h : b.toNat < 16) : maskArg b = some (b.extractLsb' 0 4) := if_pos h

theorem mask_getLsbD (b : Byte) (k : Channel) : (b.extractLsb' 0 4 : ChannelMask).getLsbD k.val = b.getLsbD k.val := by
  simp [k.isLt]

theorem maskByte_extract {b : Byte} (h : b.toNat < 16) : maskByte (b.extractLsb' 0 4) = b := by
  refine BitVec.eq_of_toNat_eq ?_
  simp [maskByte]
  omega

theorem mask_eq_zero {b : Byte} (h : b.toNat < 16) : (b.extractLsb' 0 4 : ChannelMask) = 0 ↔ b = 0 := by
  constructor
  · intro e
    rw [← maskByte_extract h, e]
    rfl
  · rintro rfl
    rfl

/-! ### CLEAR_LATCH -/

section
variable {s : State} {args : Quad}

/-- The per-channel code, condition by condition (R77). -/
theorem State.clearCode_eq (s : State) (mask : ChannelMask) (k : Channel) :
    s.clearCode mask k =
      if mask.getLsbD k.val = false then 0
      else if s.chans[k].st ≠ .latched then 2
      else if s.inHold = true then 3
      else if s.latchPresent k = true then 4
      else 1 := by
  unfold State.clearCode State.clearBlock
  cases mask.getLsbD k.val with
  | false => rfl
  | true =>
    generalize s.chans[k].st = st
    by_cases hl : st = .latched
    · by_cases hh : s.inHold = true
      · simp [hl, hh]
      · by_cases hp : s.latchPresent k = true <;> simp [hl, hh, hp]
    · simp [hl]

/-- The channels before `k`, `k`, and those after it. -/
theorem allChannels_split (k : Channel) :
    allChannels = allChannels.filter (· < k) ++ k :: allChannels.filter (k < ·) := by
  revert k; decide

theorem State.firstBlock_append {mask : ChannelMask} {l : List Channel} (rest : List Channel)
    (h : s.firstBlock mask l = none) : s.firstBlock mask (l ++ rest) = s.firstBlock mask rest := by
  induction l with
  | nil => rfl
  | cons j l ih =>
    have hj := State.firstBlock_none.mp h
    have hl : s.firstBlock mask l = none := State.firstBlock_none.mpr fun i hi => hj i (List.mem_cons_of_mem _ hi)
    cases hm : mask.getLsbD j.val with
    | false =>
      simp only [List.cons_append, State.firstBlock, hm, Bool.false_eq_true, if_false]
      exact ih hl
    | true =>
      simp only [List.cons_append, State.firstBlock, hm, if_true, hj j List.mem_cons_self hm]
      exact ih hl

/-- The first channel, in order, that would not clear gives the reason (R77). -/
theorem State.firstBlock_some {mask : ChannelMask} {k : Channel} {why : Reason} (hk : mask.getLsbD k.val = true)
    (hb : ∀ j : Channel, j < k → mask.getLsbD j.val = true → s.clearBlock j = none) (hw : s.clearBlock k = some why) :
    s.firstBlock mask allChannels = some why := by
  have hp : s.firstBlock mask (allChannels.filter (· < k)) = none :=
    State.firstBlock_none.mpr fun j hj => hb j (by simpa using (List.mem_filter.mp hj).2)
  rw [allChannels_split k, State.firstBlock_append _ hp, State.firstBlock, if_pos hk, hw]

theorem State.clearedChan_eq (s : State) (k : Channel) (c : Chan) :
    s.clearedChan k c =
      if s.staging.actCh[k].clearAtMark = true then { c with st := .clearing, ind := .pending }
      else if s.cyclePresent k = true then
        { c with st := .cycle, persist := 0, timer := 0, enteredCycle := true, ind := .none }
      else { c with st := .normal, ind := .none } := by
  unfold State.clearedChan
  split
  · rfl
  · split <;> rfl

/-- Every named channel cleared: to CLEARING by its timing, else at once by its cycle cause (R78, R79). -/
theorem State.clearedAll_chan (s : State) (named : Channel → Bool) (k : Channel) :
    let t := s.mapChans fun k c => if named k then s.clearedChan k c else c
    if named k = true then
      (if s.staging.actCh[k].clearAtMark then t.chans[k] = { s.chans[k] with st := .clearing, ind := .pending }
      else if s.cyclePresent k then
        t.chans[k] = { s.chans[k] with st := .cycle, persist := 0, timer := 0, enteredCycle := true, ind := .none }
      else t.chans[k] = { s.chans[k] with st := .normal, ind := .none })
    else t.chans[k] = s.chans[k] := by
  have hg := s.mapChans_get (fun k c => if named k then s.clearedChan k c else c) k
  have hc := s.clearedChan_eq k s.chans[k]
  dsimp only
  split
  · rename_i hk
    have hg := (hg.trans (if_pos hk)).trans hc
    split
    · rename_i hm
      exact hg.trans (if_pos hm)
    · rename_i hm
      have hg := hg.trans (if_neg hm)
      split
      · rename_i hy
        exact hg.trans (if_pos hy)
      · rename_i hy
        exact hg.trans (if_neg hy)
  · rename_i hk
    exact hg.trans (if_neg hk)

theorem actClearLatch_range (h : 16 ≤ args.b0.toNat) : actClearLatch args s = refuse s .range ⟨args.b0, 0, 0, 0⟩ := by
  unfold actClearLatch
  rw [maskArg_none h]

theorem actClearLatch_empty (h : args.b0 = 0) : actClearLatch args s = refuse s .emptyMask Quad.zero := by
  unfold actClearLatch
  rw [h]
  rfl

theorem actClearLatch_refused {why : Reason} (h : args.b0.toNat < 16) (h0 : args.b0 ≠ 0)
    (hw : s.firstBlock (args.b0.extractLsb' 0 4) allChannels = some why) :
    actClearLatch args s = refuse s why (s.clearPayload (args.b0.extractLsb' 0 4) 0 0) := by
  unfold actClearLatch
  rw [maskArg_some h]
  simp only [mask_eq_zero h, h0, if_false, hw]

theorem actClearLatch_clears (h : args.b0.toNat < 16) (h0 : args.b0 ≠ 0)
    (hw : s.firstBlock (args.b0.extractLsb' 0 4) allChannels = none) :
    actClearLatch args s =
      .done (s.mapChans fun k c => if args.b0.getLsbD k.val then s.clearedChan k c else c) .ok
        (s.clearPayload (args.b0.extractLsb' 0 4)
          (maskByte (maskWhere fun k => args.b0.getLsbD k.val && !s.staging.actCh[k].clearAtMark))
          (maskByte (maskWhere fun k => args.b0.getLsbD k.val && s.staging.actCh[k].clearAtMark))) := by
  unfold actClearLatch
  rw [maskArg_some h]
  simp only [mask_eq_zero h, h0, if_false, hw, mask_getLsbD]

end

/-! ### FORCE_TRIP -/

/-- What FORCE_TRIP makes of a named channel (R82). -/
theorem TripKind.force_eq (t : TripKind) (c : Chan) :
    t.force c = match t with
      | .latch => latchEntry c
      | .cycle => { cycleEntry c with pulse := true } := by
  cases t with
  | latch => exact (latchEntry_eq c).symm
  | cycle =>
    rw [cycleEntry_eq]
    unfold TripKind.force Chan.cycleCause
    cases hc : c.st <;> simp [Chan.enterCycle, hc]

section
variable (s : State) (mask : ChannelMask) (t : TripKind)

/-- The offer of HST's Assert record (R82). -/
def State.hstOffer : Offered :=
  s.journal.offer ⟨.assert (levelOf s.staging.actTab[hst].level) (some t), some hst, mask, some t.cls, s.time.tstamp⟩

theorem State.forceTrip_eq :
    s.forceTrip mask t = { s with
      chans := (s.forceTrip mask t).chans, journal := (s.forceTrip mask t).journal
      arb := { s.arb with pend := (s.forceTrip mask t).arb.pend } } := by
  unfold State.forceTrip
  dsimp only
  generalize s.staging.actTab[hst] = e
  by_cases hl : e.level = 0 <;> by_cases hr : e.record = true <;>
    simp only [hl, hr, if_true, if_false, Bool.false_eq_true] <;>
    (try rw [State.occur_eq]) <;> (try rw [State.offer_eq]) <;> rfl

theorem State.forceTrip_journal :
    (s.forceTrip mask t).journal = if s.staging.actTab[hst].record then (s.hstOffer mask t).journal else s.journal := by
  unfold State.forceTrip State.hstOffer
  dsimp only
  generalize s.staging.actTab[hst] = e
  by_cases hl : e.level = 0 <;> by_cases hr : e.record = true <;>
    simp [hl, hr, State.assertBody]

theorem State.forceTrip_pend :
    (s.forceTrip mask t).arb.pend[hst] =
      if s.staging.actTab[hst].level = 0 then s.arb.pend[hst]
      else some (match s.arb.pend[hst] with
        | none => ⟨1, if s.staging.actTab[hst].record then (s.hstOffer mask t).seq else none⟩
        | some p => { p with count := satInc p.count }) := by
  have ho := fun (u : State) r => State.offer_pend_ne u r (show hst ≠ jth by decide)
  have hq : ∀ (u : State) r, (u.offer r).2 = (u.journal.offer r).seq := fun _ _ => rfl
  unfold State.forceTrip State.hstOffer
  dsimp only
  generalize s.staging.actTab[hst] = e
  by_cases hl : e.level = 0 <;> by_cases hr : e.record = true <;>
    simp only [hl, hr, if_true, if_false, Bool.false_eq_true, Fin.getElem_fin, State.occur_pend, ho, hq] <;> rfl

theorem State.forceTrip_pend_ne {b : Source} (h : b ≠ hst) (hj : b ≠ jth) :
    (s.forceTrip mask t).arb.pend[b] = s.arb.pend[b] := by
  unfold State.forceTrip
  dsimp only
  generalize s.staging.actTab[hst] = e
  by_cases hl : e.level = 0 <;> by_cases hr : e.record = true <;>
    simp [hl, hr, State.occur_pend_ne _ _ h, State.offer_pend_ne _ _ hj]

theorem State.forceTrip_chan (k : Channel) :
    (s.forceTrip mask t).chans[k] = if mask.getLsbD k.val then t.force s.chans[k] else s.chans[k] := by
  simp only [State.forceTrip_chans, Fin.getElem_fin, State.mapChans_get]

end

section
variable {s : State} {args : Quad}

theorem tripKindArg_some {b : Byte} (h : b = 1 ∨ b = 2) :
    tripKindArg b = some (if b = 1 then .cycle else .latch) := by
  rcases h with rfl | rfl <;> rfl

theorem tripKindArg_none {b : Byte} (h1 : b ≠ 1) (h2 : b ≠ 2) : tripKindArg b = none :=
  (if_neg h1).trans (if_neg h2)

theorem actForceTrip_range (h : 16 ≤ args.b0.toNat ∨ (args.b1 ≠ 1 ∧ args.b1 ≠ 2)) :
    actForceTrip args s = refuse s .range Quad.zero := by
  unfold actForceTrip
  rcases h with h | ⟨h1, h2⟩
  · rw [maskArg_none h]
    cases tripKindArg args.b1 <;> rfl
  · rw [tripKindArg_none h1 h2]

theorem actForceTrip_empty (h : args.b0 = 0) (hk : args.b1 = 1 ∨ args.b1 = 2) :
    actForceTrip args s = refuse s .emptyMask Quad.zero := by
  unfold actForceTrip
  rw [tripKindArg_some hk, h]
  rfl

theorem actForceTrip_trips (h : args.b0.toNat < 16) (h0 : args.b0 ≠ 0) (hk : args.b1 = 1 ∨ args.b1 = 2) {u : State}
    (hu : u = s.forceTrip (args.b0.extractLsb' 0 4) (if args.b1 = 1 then .cycle else .latch)) :
    actForceTrip args s =
      .done u .ok ⟨args.b0, args.b1, maskByte (maskWhere fun k => s.chans[k].st != u.chans[k].st), 0⟩ := by
  unfold actForceTrip
  rw [tripKindArg_some hk, maskArg_some h, hu]
  simp only [mask_eq_zero h, h0, if_false, maskByte_extract h]

end

/-! ### RESET_DEVICE -/

theorem actResetDevice_refused {s s1 : State} {args : Quad} (h : s1.link.confirm ≠ some ⟨18, args.b3⟩) :
    actResetDevice s1.link.confirm args s = refuse s .notConfirmed ⟨armedCode s1, 0, 0, 0⟩ := ifConfirmed_refused s h

theorem actResetDevice_resets {s s1 : State} {args : Quad} (h : s1.link.confirm = some ⟨18, args.b3⟩) :
    actResetDevice s1.link.confirm args s = .reset s.cmdReset := ifConfirmed_passed s h

/-- An ACTION that resets leaves what its reset leaves (R172). -/
theorem answersReset {s s1 t : State} {f : Frame} {code : Byte} {args : Quad} (h : TakenAction f code args s s1)
    (e : actByCode code s1.link.confirm args s1.endConfirm = .reset t) :
    (Host.Outcome.next (s.action f code args) : Answer) = .next t := by
  rw [State.action_taken h, e]
  rfl

/-- nIRQ at a recompute (R131). -/
theorem State.recomputeIrq_iff (s : State) (holding : Bool) :
    (s.recomputeIrq holding).outs.nIrq = true ↔ ∃ src : Source, s.eligibleWith holding src = true := by
  have hm : ∀ src : Source, src ∈ allSources := by decide
  exact List.any_eq_true.trans ⟨fun ⟨x, _, h⟩ => ⟨x, h⟩, fun ⟨x, h⟩ => ⟨x, hm x, h⟩⟩

theorem State.recomputeIrq_eligible (s : State) :
    (s.recomputeIrq (s.arb.hd != 0)).outs.nIrq = true ↔
      ∃ src : Source, (s.recomputeIrq (s.arb.hd != 0)).eligible src = true :=
  (s.recomputeIrq_iff _).trans (exists_congr fun _ => Iff.rfl)

/-- A recompute in Safe-Hold: every output under layer 1 at its bit of the pattern (R87, R91). -/
theorem State.recomputed_hold {s : State} (h : s.inHold = true) (holding : Bool) :
    s.recomputeOutputs.recomputeIrq holding = { s with
      outs := ⟨Vector.replicate 8 .safe, s.safepat, true, (s.recomputeOutputs.recomputeIrq holding).outs.nIrq⟩ } := by
  conv => lhs; unfold State.recomputeIrq State.recomputeOutputs
  rw [State.layersNow_hold h, State.levelsNow_hold h, h]
  rfl

/-- Two records in a row change the journal and the pending states alone. -/
theorem State.record_record_eq (s : State) (x y : RecBody) :
    (s.record x).record y = { s with
      journal := ((s.journal.offer x).journal.offer y).journal
      arb := { s.arb with pend := ((s.record x).record y).arb.pend } } := by
  have e := (s.record x).record_eq y
  rw [State.record_journal] at e
  generalize (s.record x).record y = r at e ⊢
  rw [s.record_eq x] at e
  exact e

/-- The records of a CMD reset, offered to what its first steps leave (R171). -/
def State.cmdRecords (s : State) : State :=
  ((s.softResetBlocks .cmd true).record ⟨.resetMark .cmd, none, 0, none, s.time.tstamp⟩).record
    ⟨.safeEntry .startup true, none, 0, none, s.time.tstamp⟩

theorem State.cmdReset_eq (s : State) :
    s.cmdReset = s.cmdRecords.recomputeOutputs.recomputeIrq (s.cmdRecords.arb.hd != 0) := by
  have ht : ∀ b, ((s.softResetBlocks .cmd true).record b).time.tstamp = s.time.tstamp := fun b => by simp; rfl
  have he : resetEntry true s.causes = some true := if_pos (.inl rfl)
  unfold State.cmdReset State.softReset State.cmdRecords
  simp only [he, State.plainBody, ht]
  rfl

theorem State.cmdRecords_eq (s : State) :
    s.cmdRecords = { s.softResetBlocks .cmd true with
      journal := ((s.journal.offer ⟨.resetMark .cmd, none, 0, none, s.time.tstamp⟩).journal.offer
        ⟨.safeEntry .startup true, none, 0, none, s.time.tstamp⟩).journal
      arb := { State.reset.arb with pend := s.cmdRecords.arb.pend } } := State.record_record_eq _ _ _

theorem State.cmdRecords_pend (s : State) {b : Source} (h : b ≠ jth) : s.cmdRecords.arb.pend[b] = none := by
  have hn : (s.softResetBlocks .cmd true).arb.pend[b] = none := by simp [State.softResetBlocks, Arbiter.softReset]
  exact (State.record_pend_ne _ _ h).trans ((State.record_pend_ne _ _ h).trans hn)

end Sys2Proof.Machine

open Sys2Proof Sys2Proof.Machine

/-- Settles O45: the mask's checks, the first channel that would not clear, and each named channel cleared. -/
theorem clearLatchIsAllOrNothing : Obligations.ClearLatchIsAllOrNothing := by
  intro f args s s1 h code hcode
  have hc : ∀ k, s1.endConfirm.clearCode (args.b0.extractLsb' 0 4) k = code k := fun k => by
    rw [State.clearCode_eq, mask_getLsbD, hcode]
    rfl
  have hp : ∀ b0 b1, s1.endConfirm.clearPayload (args.b0.extractLsb' 0 4) b0 b1 =
      ⟨b0, b1, code 0 ++ code 1, code 2 ++ code 3⟩ := fun b0 b1 => by
    unfold State.clearPayload
    simp only [hc]
  refine ⟨fun hr => answers h (actClearLatch_range hr), fun h0 => answers h (actClearLatch_empty h0),
    fun hr k hk hb why hw r hwr => ?_, fun hr h0 hh hl => ?_⟩
  · have hne : args.b0 ≠ 0 := by
      rintro e
      simp [e] at hk
    have e := actClearLatch_refused (s := s1.endConfirm) hr hne (State.firstBlock_some (k := k) (why := r)
      ((mask_getLsbD _ _).trans hk) (fun j hj hm => State.clearBlock_none.mpr (hb j hj ((mask_getLsbD _ _).symm.trans hm)))
      (hw.symm.trans hwr))
    rw [hp] at e
    exact answers h e
  · have e := actClearLatch_clears (s := s1.endConfirm) hr h0 (State.firstBlock_none.mpr fun k _ hm =>
      State.clearBlock_none.mpr
        ⟨(hl k ((mask_getLsbD _ _).symm.trans hm)).1, hh, (hl k ((mask_getLsbD _ _).symm.trans hm)).2⟩)
    rw [hp] at e
    refine ⟨_, _, _, answers h e, rfl, fun k => ⟨maskWhere_getLsbD _ k, maskWhere_getLsbD _ k, ?_⟩⟩
    exact State.clearedAll_chan s1.endConfirm (fun k => args.b0.getLsbD k.val) k

/-- Settles O46: the arguments' checks, and FORCE_TRIP's effect on channels, journal and pending state. -/
theorem forceTripActsOnItsMask : Obligations.ForceTripActsOnItsMask := by
  intro f args s s1 h
  refine ⟨fun hr => answers h (actForceTrip_range hr), fun h0 hk => answers h (actForceTrip_empty h0 hk),
    fun hr h0 hk => ⟨_, _, answers h (actForceTrip_trips hr h0 hk rfl), fun k => ?_,
      fun b hb hj => State.forceTrip_pend_ne _ _ _ hb hj, State.forceTrip_eq _ _ _, fun k => ?_, fun e o he ho => ?_⟩⟩
  · rw [maskWhere_getLsbD]
    exact Bool.eq_iff_iff.mpr ((bne_iff_ne.trans ne_comm).trans decide_eq_true_iff.symm)
  · rw [State.forceTrip_chan, mask_getLsbD, TripKind.force_eq]
    cases args.b0.getLsbD k.val with
    | false => rfl
    | true => rcases hk with hk | hk <;> rw [hk] <;> rfl
  · subst he ho
    rw [State.forceTrip_journal, State.forceTrip_pend]
    rcases hk with hk | hk <;> rw [hk] <;> exact ⟨rfl, rfl⟩

/-- Settles O53: the reset step of CMD block by block, its two records, and the outputs in Safe-Hold. -/
theorem resetDeviceResets : Obligations.ResetDeviceResets := by
  intro f args s s1 h
  have hh : s1.endConfirm.cmdRecords.inHold = true := by rw [State.cmdRecords_eq]; rfl
  refine ⟨fun hc => answers h (actResetDevice_refused hc), fun hc =>
    ⟨_, answersReset h (actResetDevice_resets hc), ?_, fun b hb => ?_, ?_, ?_⟩⟩
  · have he := s1.endConfirm.cmdRecords_eq
    rw [State.cmdReset_eq, State.recomputed_hold hh]
    generalize (s1.endConfirm.cmdRecords.recomputeOutputs.recomputeIrq _).outs.nIrq = q
    generalize s1.endConfirm.cmdRecords = r at he ⊢
    generalize r.arb.pend = p at he
    subst he
    rfl
  · have hp := s1.endConfirm.cmdRecords_pend hb
    rw [State.cmdReset_eq]
    generalize s1.endConfirm.cmdRecords = r at hp ⊢
    exact congrArg Option.isSome hp
  · rw [State.cmdReset_eq]
    generalize s1.endConfirm.cmdRecords = r
    exact r.recomputeOutputs.recomputeIrq_eligible
  · have hj := congrArg State.journal s1.endConfirm.cmdRecords_eq
    rw [State.cmdReset_eq]
    generalize s1.endConfirm.cmdRecords = r at hj ⊢
    exact hj

end

section
/-! SUPPORT. The events of the conditioners and of the holdoff: what their items make of the state that they find. -/

namespace Sys2Proof.Machine

/-- A command that is an event answers what the event's item leaves (R13, R14). -/
theorem occurs {e : Event} {inp : Samples} {s s1 t : State} (h : ItemOpen e inp s s1) (hd : e.due inp s1 = true)
    (ht : (s1.past.runItem inp (e.item s1)).st = t) : (Host.Outcome.next (s.event e) : Answer) = .next t :=
  congrArg _ ((State.event_open h hd).trans ht)

theorem lineSrc_ne_jth (k : LineNo) : lineSrc k ≠ jth := by revert k; decide

/-! ### Transitions of a conditioner -/

/-- The sample that completes a qualification (R21, R22). -/
theorem Cond.step_asserts {c : Cond} {af : Byte} (rf : Byte) (h : (c = .idle ∧ af = 0) ∨ ∃ n, c = .qualifying n (n + 1)) :
    c.step af rf true = (.asserted, .assertion) := by
  rcases h with ⟨rfl, rfl⟩ | ⟨n, rfl⟩
  · rfl
  · simp [Cond.step]

/-- The sample that completes a release (R23, R24). -/
theorem Cond.step_clears {c : Cond} {rf : Byte} (af : Byte) (h : (c = .asserted ∧ rf = 0) ∨ ∃ n, c = .releasing n (n + 1)) :
    c.step af rf false = (.idle, .clear) := by
  rcases h with ⟨rfl, rfl⟩ | ⟨n, rfl⟩
  · rfl
  · simp [Cond.step]

/-! ### Lines -/

section
variable {s : State} {k : LineNo} {inp : Samples} {level : Bool}

theorem State.lineItem_enabled (he : s.lines[k].cfg.enable = true) :
    s.lineItem k level = s.lineRaw k (s.lines[k].cfg.rawActive level) := if_pos he

theorem State.lineEvent_enabled (he : s.lines[k].cfg.enable = true) :
    s.lineEvent k inp =
      (s.lines[k].cond.step s.lines[k].cfg.af s.lines[k].cfg.rf
        (s.lines[k].cfg.rawActive (inp.fin.getLsbD k.val))).2 := if_pos he

theorem State.lineRaw_asserts {active : Bool}
    (h : s.lines[k].cond.step s.lines[k].cfg.af s.lines[k].cfg.rf active = (.asserted, .assertion)) :
    s.lineRaw k active = s.assertLine k := by
  unfold State.lineRaw
  simp only [h]

theorem State.lineRaw_clears {active : Bool}
    (h : s.lines[k].cond.step s.lines[k].cfg.af s.lines[k].cfg.rf active = (.idle, .clear)) :
    s.lineRaw k active = s.dropLine k s.lines[k].cfg.recordClear false := by
  unfold State.lineRaw
  simp only [h]

theorem State.assertLine_eq (s : State) (k : LineNo) :
    s.assertLine k =
      (s.setLine k { s.lines[k] with
        cond := .asserted, contrib := some (s.capture (lineSrc k) (levelOf s.staging.actTab[lineSrc k].level)) }).asserted
        (lineSrc k) (s.capture (lineSrc k) (levelOf s.staging.actTab[lineSrc k].level))
        s.staging.actTab[lineSrc k].record := rfl

theorem State.assertLine_lines (s : State) (k : LineNo) :
    (s.assertLine k).lines = (s.setLine k { s.lines[k] with
        cond := .asserted
        contrib := some (s.capture (lineSrc k) (levelOf s.staging.actTab[lineSrc k].level)) }).lines := by
  rw [State.assertLine_eq]
  simp only [State.asserted_frame]

/-- An assertion of a line changes the lines, and what an assertion event changes, alone. -/
theorem State.assertLine_blocks (s : State) (k : LineNo) :
    s.assertLine k = { s with
      lines := (s.assertLine k).lines, chans := (s.assertLine k).chans, causes := (s.assertLine k).causes
      journal := (s.assertLine k).journal, arb := (s.assertLine k).arb } := by
  rw [s.assertLine_lines]
  exact State.asserted_blocks _ _ _ _

/-- The journal after the end of line k's contribution (R31). -/
def State.dropJournal (s : State) (k : LineNo) (record disabled : Bool) : Journal :=
  match s.lines[k].contrib with
  | some x =>
    if record then (s.journal.offer ⟨.clear disabled, some (lineSrc k), x.mask, none, s.time.tstamp⟩).journal
    else s.journal
  | none => s.journal

/-- The end of line k's contribution changes line k, the journal and the pending states alone (R31, R28). -/
theorem State.dropLine_eq (s : State) (k : LineNo) (record disabled : Bool) :
    s.dropLine k record disabled = { s.setLine k { s.lines[k] with cond := .idle, contrib := none } with
      journal := s.dropJournal k record disabled
      arb := { s.arb with pend := (s.dropLine k record disabled).arb.pend } } := by
  unfold State.dropLine State.dropJournal
  dsimp only
  cases s.lines[k].contrib with
  | none => rfl
  | some x =>
    cases record with
    | true => exact State.record_eq _ _
    | false => rfl

theorem State.dropLine_pend_ne (s : State) (k : LineNo) (record disabled : Bool) {b : Source} (h : b ≠ jth) :
    (s.dropLine k record disabled).arb.pend[b] = s.arb.pend[b] := by
  unfold State.dropLine
  dsimp only
  cases s.lines[k].contrib with
  | none => rfl
  | some x =>
    cases record with
    | true => exact State.record_pend_ne _ _ h
    | false => rfl

theorem State.dropLine_lines (s : State) (k : LineNo) (record disabled : Bool) :
    (s.dropLine k record disabled).lines = (s.setLine k { s.lines[k] with cond := .idle, contrib := none }).lines := by
  have e := congrArg State.lines (s.dropLine_eq k record disabled)
  exact e

end

/-! ### SUP and SAFE_IN -/

theorem State.supItem_asserts {s : State} {low : Bool} (h : s.sup.cond.step 15 255 low = (.asserted, .assertion)) :
    s.supItem low = s.assertSup := by
  unfold State.supItem
  simp only [Config.supAssertLimit, Config.supReleaseLimit, h]

theorem State.supItem_clears {s : State} {low : Bool} (h : s.sup.cond.step 15 255 low = (.idle, .clear)) :
    s.supItem low = s.clearSup := by
  unfold State.supItem
  simp only [Config.supAssertLimit, Config.supReleaseLimit, h]

theorem State.assertSup_sup (s : State) : s.assertSup.sup = ⟨.asserted, some (s.capture supSrc 8)⟩ := by
  unfold State.assertSup
  simp only [State.asserted_frame]

theorem State.assertSup_blocks (s : State) :
    s.assertSup = { s with
      sup := s.assertSup.sup, chans := s.assertSup.chans, causes := s.assertSup.causes
      journal := s.assertSup.journal, arb := s.assertSup.arb } := by
  rw [s.assertSup_sup]
  exact State.asserted_blocks { s with sup := ⟨.asserted, some (s.capture supSrc 8)⟩ } supSrc (s.capture supSrc 8) true

/-- A record changes the journal and the pending states alone. -/
theorem State.record_blocks (s : State) (b : RecBody) :
    s.record b = { s with
      journal := (s.record b).journal, arb := { s.arb with pend := (s.record b).arb.pend } } := by
  rw [State.record_journal]
  exact s.record_eq b

theorem State.clearSup_held {s : State} {x : Contribution} (h : s.sup.contrib = some x) :
    s.clearSup = ({ s with sup := ⟨.idle, none⟩ } : State).record
      ⟨.clear false, some supSrc, x.mask, none, s.time.tstamp⟩ := by
  unfold State.clearSup
  simp only [h]
  rfl

theorem State.safeInItem_asserts {s : State} {level : Bool} (h : s.safeIn.step 7 7 (!level) = (.asserted, .assertion)) :
    s.safeInItem level = ({ s with safeIn := .asserted } : State).addCause .input none := by
  unfold State.safeInItem
  simp only [Config.safeInLimit, h]
  rfl

theorem State.safeInItem_clears {s : State} {level : Bool} (h : s.safeIn.step 7 7 (!level) = (.idle, .clear)) :
    s.safeInItem level = { s with safeIn := .idle } := by
  unfold State.safeInItem
  simp only [Config.safeInLimit, h]

end Sys2Proof.Machine

open Sys2Proof Sys2Proof.Machine

/-- Settles O15: the decrement of phase 5 at HD 1. -/
theorem holdoffExpires : Obligations.HoldoffExpires := by
  refine fun inp s s1 h h1 => occurs h (beq_iff_eq.mpr h1) ?_
  have hd : (if s1.arb.hd = 0 then 0 else s1.arb.hd - 1) = 0 := by rw [h1]; rfl
  change { s1.past with arb := { s1.arb with hd := if s1.arb.hd = 0 then 0 else s1.arb.hd - 1 } } = _
  rw [hd]

/-- Settles O16: the sample that completes a qualification runs the assertion event of the line. -/
theorem lineAssertCapturesAndTrips : Obligations.LineAssertCapturesAndTrips := by
  intro k inp s s1 h he ha hq
  have hs := Cond.step_asserts (c := s1.lines[k].cond) (af := s1.lines[k].cfg.af) s1.lines[k].cfg.rf hq
  have hd : s1.lineEvent k inp = .assertion := by rw [State.lineEvent_enabled he, ha, hs]
  have hr : s1.past.lineItem k (inp.fin.getLsbD k.val) = s1.past.assertLine k := by
    rw [State.lineItem_enabled (s := s1.past) he]
    refine (congrArg (s1.past.lineRaw k) ha).trans (State.lineRaw_asserts (s := s1.past) hs)
  refine ⟨_, occurs h (beq_iff_eq.mpr hd) hr, State.assertLine_blocks _ _, fun j hj => ?_, fun e x hx hy => ⟨?_, ?_⟩⟩
  · rw [State.assertLine_lines]
    exact State.setLine_get_ne _ _ hj
  · subst hx hy
    rw [State.assertLine_lines]
    exact State.setLine_get _ _ _
  · subst hx hy
    refine Asserts.congr (State.asserted_asserts _ _ _ (lineSrc_ne_jth k)) rfl rfl rfl rfl rfl

/-- Settles O17: the sample that completes a release ends the line's contribution. -/
theorem lineClearDropsTheContribution : Obligations.LineClearDropsTheContribution := by
  intro k inp s s1 h he ha hq
  have hs := Cond.step_clears (c := s1.lines[k].cond) (rf := s1.lines[k].cfg.rf) s1.lines[k].cfg.af hq
  have hd : s1.lineEvent k inp = .clear := by rw [State.lineEvent_enabled he, ha, hs]
  have hr : s1.past.lineItem k (inp.fin.getLsbD k.val) = s1.past.dropLine k s1.lines[k].cfg.recordClear false := by
    rw [State.lineItem_enabled (s := s1.past) he]
    refine (congrArg (s1.past.lineRaw k) ha).trans (State.lineRaw_clears (s := s1.past) hs)
  refine ⟨_, occurs h (beq_iff_eq.mpr hd) hr, ?_, ?_, fun j hj => ?_, fun b hb => State.dropLine_pend_ne _ _ _ _ hb, ?_⟩
  · have e := s1.past.dropLine_eq k s1.lines[k].cfg.recordClear false
    rw [congrArg State.lines e, congrArg State.journal e]
    exact e
  · rw [State.dropLine_lines]
    exact State.setLine_get _ _ _
  · rw [State.dropLine_lines]
    exact State.setLine_get_ne _ _ hj
  · exact congrArg State.journal (s1.past.dropLine_eq k s1.lines[k].cfg.recordClear false)

/-- Settles O18: SUP's item at the sample that completes a qualification, and a release. -/
theorem supplyDroopAssertsAndClears : Obligations.SupplyDroopAssertsAndClears := by
  refine ⟨fun inp s s1 n h hc hl => ?_, fun inp s s1 n x h hc hl => ?_⟩
  · have hs : s1.sup.cond.step 15 255 inp.supLow = (.asserted, .assertion) := by
      rw [hl]
      exact Cond.step_asserts _ (.inr ⟨n, hc⟩)
    refine ⟨_, occurs h (beq_iff_eq.mpr (congrArg Prod.snd hs)) (State.supItem_asserts (s := s1.past) hs),
      State.assertSup_blocks _, fun x hx => ?_⟩
    subst hx
    exact ⟨State.assertSup_sup _, Asserts.congr (State.asserted_asserts _ _ _ (by decide)) rfl rfl rfl rfl rfl⟩
  · have hs : s1.sup.cond.step 15 255 inp.supLow = (.idle, .clear) := by
      rw [hl]
      exact Cond.step_clears _ (.inr ⟨n, congrArg Sup.cond hc⟩)
    exact ⟨_, occurs h (beq_iff_eq.mpr (congrArg Prod.snd hs))
      ((State.supItem_clears (s := s1.past) hs).trans (State.clearSup_held (congrArg Sup.contrib hc))),
      State.record_blocks _ _, fun b hb => State.record_pend_ne _ _ hb, State.record_journal _ _⟩

/-- Settles O19: SAFE_IN's activation adds a cause; its end changes the conditioner. -/
theorem safeInActsOnSafeHoldAlone : Obligations.SafeInActsOnSafeHoldAlone := by
  refine ⟨fun inp s s1 n h hc hl => ?_, fun inp s s1 n h hc hl => ?_⟩
  · have hs : s1.safeIn.step 7 7 (!inp.safeIn) = (.asserted, .assertion) := by
      rw [hl]
      exact Cond.step_asserts _ (.inr ⟨n, hc⟩)
    exact ⟨_, occurs h (beq_iff_eq.mpr (congrArg Prod.snd hs)) (State.safeInItem_asserts (s := s1.past) hs),
      State.addCause_eq _ _ _, State.addCause_chan _ _ _, fun b hb => State.addCause_pend_ne _ _ _ hb,
      State.addCause_journal _ _ _⟩
  · have hs : s1.safeIn.step 7 7 (!inp.safeIn) = (.idle, .clear) := by
      rw [hl]
      exact Cond.step_clears _ (.inr ⟨n, hc⟩)
    exact occurs h (beq_iff_eq.mpr (congrArg Prod.snd hs)) (State.safeInItem_clears (s := s1.past) hs)

/-- Settles O20: by induction on the samples, the filter count is the number of active samples after the first. -/
theorem assertFilterTakesItsLatchedLength : Obligations.AssertFilterTakesItsLatchedLength := by
  intro af rf n later hn
  have step : ∀ m, m < af.toNat → ∀ x y, Cond.step (.qualifying (BitVec.ofNat 8 m) af) x y true =
      if m + 1 = af.toNat then (.asserted, .assertion) else (.qualifying (BitVec.ofNat 8 (m + 1)) af, .none) := by
    intro m hm x y
    have haf := af.isLt
    have hs : BitVec.ofNat 8 m + 1 = BitVec.ofNat 8 (m + 1) := (BitVec.ofNat_add m 1).symm
    have he : BitVec.ofNat 8 (m + 1) = af ↔ m + 1 = af.toNat := by
      rw [← BitVec.toNat_inj, BitVec.toNat_ofNat, Nat.mod_eq_of_lt (by omega)]
    simp only [Cond.step, if_true, hs, he]
  refine ⟨?_, step n hn _ _, rfl⟩
  induction n with
  | zero =>
    have h0 : af ≠ 0 := by
      rintro rfl
      exact absurd hn (by decide)
    change (if af = 0 then (Cond.asserted, CondEvent.assertion) else (.qualifying 0 af, .none)).1 = _
    rw [if_neg h0]
    rfl
  | succ n ih =>
    rw [List.range_succ, List.foldl_append, ih (by omega)]
    simp only [List.foldl_cons, List.foldl_nil, step n (by omega), if_neg (show n + 1 ≠ af.toNat by omega)]

end

section
/-! SUPPORT. The events of phases 3 and 4: marks, escalations and armed commits. -/

namespace Sys2Proof.Machine

/-! ### Records that name one channel -/

/-- The journal after a record that names channel k alone, if there is one. -/
def State.noteJournal (s : State) (k : Channel) (r : Option RecKind) : Journal :=
  match r with
  | some kind => (s.journal.offer ⟨kind, none, maskOf k, none, s.time.tstamp⟩).journal
  | none => s.journal

theorem State.noteOn_eq (s : State) (k : Channel) (r : Option RecKind) :
    s.noteOn k r = { s with
      journal := s.noteJournal k r, arb := { s.arb with pend := (s.noteOn k r).arb.pend } } := by
  cases r with
  | none => rfl
  | some kind => exact State.record_eq _ _

theorem State.noteOn_journal (s : State) (k : Channel) (r : Option RecKind) : (s.noteOn k r).journal = s.noteJournal k r := by
  have e := congrArg State.journal (s.noteOn_eq k r)
  exact e

theorem State.noteOn_pend_ne (s : State) (k : Channel) (r : Option RecKind) {b : Source} (h : b ≠ jth) :
    (s.noteOn k r).arb.pend[b] = s.arb.pend[b] := by
  cases r with
  | none => rfl
  | some kind => exact State.record_pend_ne _ _ h

/-- What changes channel k and makes at most one record of it. -/
theorem State.setChan_noteOn (s : State) (k : Channel) (c : Chan) (r : Option RecKind) {t : State}
    (ht : t = (s.setChan k c).noteOn k r) :
    t = { s with
      chans := t.chans, journal := s.noteJournal k r, arb := { s.arb with pend := t.arb.pend } } ∧
    t.chans[k] = c ∧ (∀ j : Channel, j ≠ k → t.chans[j] = s.chans[j]) ∧
    (∀ b : Source, b ≠ jth → t.arb.pend[b] = s.arb.pend[b]) ∧ t.journal = s.noteJournal k r := by
  have hc : t.chans = (s.setChan k c).chans := by rw [ht]; exact (State.noteOn_frame _ _ _).1
  refine ⟨?_, ?_, fun j hj => ?_, fun b hb => ?_, ?_⟩
  · rw [hc, ht]
    exact State.noteOn_eq _ _ _
  · rw [hc]
    exact State.setChan_get _ _ _
  · rw [hc]
    exact State.setChan_get_ne _ _ hj
  · rw [ht]
    exact State.noteOn_pend_ne _ _ _ hb
  · rw [ht]
    exact State.noteOn_journal _ _ _

/-! ### A channel after its mark -/

section
variable {c : Chan} {cfg : ChanCfg} {present : Bool}

theorem Chan.marked_pulse (c : Chan) (cfg : ChanCfg) (present : Bool) :
    (c.marked cfg present).pulse = false ∧ (c.marked cfg present).markSeen = true := by
  unfold Chan.marked Chan.latchCause
  cases c.st <;> cases present <;> cases c.reaches cfg <;> simp [Chan.enterCycle]

/-- After its mark a channel in CYCLE has its timer at 0 (R68, R70). -/
theorem Chan.marked_timer (h : (c.marked cfg present).st = .cycle) : (c.marked cfg present).timer = 0 := by
  unfold Chan.marked at h ⊢
  cases hst : c.st with
  | normal => simp [hst] at h
  | cycle => cases present <;> cases hr : c.reaches cfg <;> simp_all
  | latched => simp [hst] at h
  | clearing => cases present <;> simp_all [Chan.enterCycle]

theorem Chan.marked_timed (c : Chan) (cfg : ChanCfg) (present : Bool) :
    (c.marked cfg present).timed = c.marked cfg present := by
  have h : (c.marked cfg present).starving = false := by
    simp [Chan.starving, (c.marked_pulse cfg present).2]
  exact if_neg (by simp [h])

/-- In the tick of its mark a channel never starves (R71, R72). -/
theorem Chan.marked_starved (c : Chan) (cfg : ChanCfg) (present : Bool) :
    (c.marked cfg present).timed.starved cfg = false := by
  rw [Chan.marked_timed]
  by_cases hs : (c.marked cfg present).st = .cycle
  · have ht := Chan.marked_timer hs
    simp only [Chan.starved, hs, ht, Config.timeoutUnit]
    simp
    omega
  · simp [Chan.starved, hs]

theorem Chan.marked_starveEnd (c : Chan) (cfg : ChanCfg) (present : Bool) :
    (c.marked cfg present).starveEnd cfg = c.marked cfg present ∧
    (c.marked cfg present).starveRecord cfg = none := by
  unfold Chan.starveEnd Chan.starveRecord
  rw [Chan.marked_starved]
  exact ⟨Chan.marked_timed c cfg present, rfl⟩

end

/-- In the tick of its mark the turn of a channel is the mark (R13, R71). -/
theorem State.chanItem_marked (s : State) (k : Channel) :
    s.chanItem k true = (s.setChan k (s.chans[k].marked s.staging.actCh[k] (s.heldOn .cycle k))).noteOn k
      (s.chans[k].markRecord s.staging.actCh[k] (s.heldOn .cycle k)) := by
  have hc : (s.markChan k).chans[k] = s.chans[k].marked s.staging.actCh[k] (s.heldOn .cycle k) := by
    rw [State.markChan_eq]
    simp
  have hg : (s.markChan k).staging = s.staging := by simp
  obtain ⟨he, hn⟩ := Chan.marked_starveEnd s.chans[k] s.staging.actCh[k] (s.heldOn .cycle k)
  have hs : (s.markChan k).setChan k (s.chans[k].marked s.staging.actCh[k] (s.heldOn .cycle k)) = s.markChan k := by
    rw [← hc]
    exact State.setChan_self _ _
  unfold State.chanItem
  rw [if_pos rfl, State.starveChan_eq, hg, hc, he, hn, hs]
  exact s.markChan_eq k

theorem State.chanItem_unmarked (s : State) (k : Channel) :
    s.chanItem k false = (s.setChan k (s.chans[k].starveEnd s.staging.actCh[k])).noteOn k
      (s.chans[k].starveRecord s.staging.actCh[k]) := s.starveChan_eq k

/-! ### The channel's cases -/

section
variable {c : Chan} {cfg : ChanCfg}

theorem Chan.reaches_iff : c.reaches cfg = true ↔ cfg.ec ≠ 0 ∧ cfg.ec.toNat ≤ (satInc c.persist).toNat := by
  unfold Chan.reaches
  rw [Bool.and_eq_true, bne_iff_ne, decide_eq_true_iff, BitVec.le_def]

theorem Chan.marked_still (present : Bool) (h : c.st = .normal ∨ c.st = .latched) :
    c.marked cfg present = { c with pulse := false, markSeen := true } ∧ c.markRecord cfg present = none := by
  rcases h with h | h <;> simp [Chan.marked, Chan.markRecord, h]

theorem Chan.marked_released (h : c.st = .cycle) :
    c.marked cfg false = { c with pulse := false, markSeen := true, st := .normal, persist := 0, timer := 0 } ∧
    c.markRecord cfg false = if cfg.recordReleases then some (.release c.persist) else none := by
  unfold Chan.marked Chan.markRecord
  rw [h]
  exact ⟨rfl, rfl⟩

theorem Chan.marked_survives (h : c.st = .cycle) (hr : c.reaches cfg = false) :
    c.marked cfg true = { c with pulse := false, markSeen := true, persist := satInc c.persist, timer := 0 } ∧
    c.markRecord cfg true = none := by
  unfold Chan.marked Chan.markRecord
  simp only [h, hr]
  exact ⟨rfl, rfl⟩

theorem Chan.marked_escalates (h : c.st = .cycle) (hr : c.reaches cfg = true) :
    c.marked cfg true = { c with pulse := false, markSeen := true, st := .latched, persist := 0, timer := 0 } ∧
    c.markRecord cfg true = some (.escalate .persist) := by
  unfold Chan.marked Chan.markRecord Chan.latchCause
  simp only [h, hr]
  exact ⟨rfl, rfl⟩

theorem Chan.marked_cleared (present : Bool) (h : c.st = .clearing) :
    (c.marked cfg present).st = (if present then .cycle else .normal) ∧ (c.marked cfg present).ind = .none ∧
    c.markRecord cfg present = if cfg.recordReleases then some (.release 0) else none := by
  unfold Chan.marked Chan.markRecord
  rw [h]
  cases present <;> exact ⟨rfl, rfl, rfl⟩

theorem Chan.timed_starving (h : c.st = .cycle) (hm : c.markSeen = false) (he : c.enteredCycle = false) :
    c.timed = { c with timer := satInc c.timer } := if_pos (by simp [Chan.starving, h, hm, he])

theorem Chan.starved_of (h : c.st = .cycle) (hm : c.markSeen = false) (he : c.enteredCycle = false)
    (h0 : cfg.mt ≠ 0) (ht : cfg.mt.toNat * 16 ≤ (satInc c.timer).toNat) : c.timed.starved cfg = true := by
  have h1 : 0 < cfg.mt.toNat := Nat.pos_of_ne_zero fun e => h0 (BitVec.eq_of_toNat_eq e)
  rw [Chan.timed_starving h hm he]
  simp [Chan.starved, h, h1, Config.timeoutUnit, ht]

theorem Chan.starveEnd_escalates (h : c.st = .cycle) (hm : c.markSeen = false) (he : c.enteredCycle = false)
    (h0 : cfg.mt ≠ 0) (ht : cfg.mt.toNat * 16 ≤ (satInc c.timer).toNat) :
    c.starveEnd cfg = { c with st := .latched, persist := 0, timer := 0 } ∧
    c.starveRecord cfg = some (.escalate .starved) := by
  have hv := Chan.starved_of h hm he h0 ht
  have htd := Chan.timed_starving h hm he
  unfold Chan.starveEnd Chan.starveRecord Chan.latchCause
  rw [hv, htd]
  simp [h]

end

theorem State.chanItem_persist {s : State} {k : Channel} (h : s.chans[k].st = .cycle) (hp : s.heldOn .cycle k = true)
    (hr : s.chans[k].reaches s.staging.actCh[k] = true) :
    s.chanItem k true = (s.setChan k { s.chans[k] with
      pulse := false, markSeen := true, st := .latched, persist := 0, timer := 0 }).noteOn k (some (.escalate .persist)) := by
  obtain ⟨e1, e2⟩ := Chan.marked_escalates h hr
  rw [State.chanItem_marked, hp, e1, e2]

theorem State.chanItem_starved {s : State} {k : Channel} (h : s.chans[k].st = .cycle) (hm : s.chans[k].markSeen = false)
    (he : s.chans[k].enteredCycle = false) (h0 : s.staging.actCh[k].mt ≠ 0)
    (ht : s.staging.actCh[k].mt.toNat * 16 ≤ (satInc s.chans[k].timer).toNat) :
    s.chanItem k false = (s.setChan k { s.chans[k] with st := .latched, persist := 0, timer := 0 }).noteOn k
      (some (.escalate .starved)) := by
  obtain ⟨e1, e2⟩ := Chan.starveEnd_escalates h hm he h0 ht
  rw [State.chanItem_unmarked, e1, e2]

/-! ### Marks and armed commits -/

theorem State.hasMark_of {s : State} {k : Channel} {wm : BitVec 4} {before : Bool} (hp : s.prevMark k = some before)
    (hm : s.staging.actCh[k].edge.isMark before (wm.getLsbD k.val) = true) : s.hasMark k wm = true := by
  unfold State.hasMark
  rw [hp]
  exact hm

theorem State.persistDue_of {s : State} {k : Channel} {inp : Samples} (hm : s.hasMark k inp.wm = true)
    (hs : s.chans[k].st = .cycle) (hp : s.heldOn .cycle k = true) (hr : s.chans[k].reaches s.staging.actCh[k] = true) :
    s.persistDue k inp = true := by
  unfold State.persistDue
  rw [hm, hs, hp]
  exact hr

theorem State.starveDue_of {s : State} {k : Channel} {inp : Samples} (hm : s.hasMark k inp.wm = false)
    (hv : s.chans[k].timed.starved s.staging.actCh[k] = true) : s.starveDue k inp = true := by
  have ht : (if s.chans[k].starving then s.setChan k { s.chans[k] with timer := satInc s.chans[k].timer } else s) =
      s.setChan k s.chans[k].timed := by
    unfold Chan.timed
    split
    · rfl
    · exact (State.setChan_self _ _).symm
  have hc : (s.setChan k s.chans[k].timed).chans[k] = s.chans[k].timed := by simp
  unfold State.starveDue
  rw [hm]
  dsimp only
  rw [ht]
  unfold State.starved
  rw [hc]
  exact hv

theorem commitDue_of {s : State} {scope : Scope} {k : Channel} (ha : s.staging.armed scope = some k)
    (hm : s.chans[k].markSeen = true) : commitDue scope s = true := by
  unfold commitDue
  rw [ha]
  exact hm

theorem State.commitItem_applies {s : State} {scope : Scope} {k : Channel} (hm : s.chans[k].markSeen = true)
    (ha : s.staging.armed scope = some k) : s.commitItem scope k = s.applyArmed scope := if_pos ⟨hm, ha⟩

theorem armedItem_table {s : State} {m : Channel} (h : s.staging.armedTable = some m) :
    armedItem .table s = .commitTable m := by
  unfold armedItem
  rw [h]

theorem armed_channel {g : Staging} {k : Channel} (h : g.armedCh.getLsbD k.val = true) : g.armed (.channel k) = some k :=
  if_pos h

end Sys2Proof.Machine

open Sys2Proof Sys2Proof.Machine

/-- Settles O21: the mark of a channel by its trip state, its block and the presence of a held cycle cause. -/
theorem markActsByTripState : Obligations.MarkActsByTripState := by
  intro k inp s s1 before h hp hm
  have hk : s1.hasMark k inp.wm = true := State.hasMark_of hp hm
  have ht : (s1.past.runItem inp ((markEvent k).item s1)).st = _ :=
    (congrArg (s1.past.chanItem k) hk).trans (s1.past.chanItem_marked k)
  obtain ⟨he, hc, hne, hpend, hj⟩ := State.setChan_noteOn _ _ _ _ ht
  obtain ⟨hpu, hms⟩ := Chan.marked_pulse s1.chans[k] s1.staging.actCh[k] (s1.heldOn .cycle k)
  refine ⟨_, occurs h hk rfl, ?_, hne, hpend, (congrArg Chan.pulse hc).trans hpu, (congrArg Chan.markSeen hc).trans hms,
    fun c cfg present h1 h2 h3 => ?_⟩
  · rw [hj]
    exact he
  · generalize (s1.past.runItem inp ((markEvent k).item s1)).st = t at hc hj
    have hc' : t.chans[k] = c.marked cfg present := by rw [h1, h2, h3]; exact hc
    have hj' : t.journal = s1.noteJournal k (c.markRecord cfg present) := by rw [h1, h2, h3]; exact hj
    rw [hc', hj']
    refine ⟨fun hs => ?_, fun hs hq => ?_, fun hs hq hn => ?_, fun hs hq h0 hr => ?_, fun hs => ?_⟩
    · obtain ⟨e1, e2⟩ := Chan.marked_still (cfg := cfg) present hs
      rw [e1, e2]
      exact ⟨rfl, rfl⟩
    · obtain ⟨e1, e2⟩ := Chan.marked_released (cfg := cfg) hs
      rw [hq, e1, e2]
      refine ⟨rfl, rfl, rfl, ?_⟩
      split <;> rfl
    · have hr : c.reaches cfg = false := by
        rw [Bool.eq_false_iff, ne_eq, Chan.reaches_iff]
        rintro ⟨h0, hle⟩
        exact hn.elim h0 fun hlt => absurd hle (Nat.not_le.2 hlt)
      obtain ⟨e1, e2⟩ := Chan.marked_survives hs hr
      rw [hq, e1, e2]
      exact ⟨hs, rfl, rfl, rfl⟩
    · obtain ⟨e1, e2⟩ := Chan.marked_escalates hs (Chan.reaches_iff.2 ⟨h0, hr⟩)
      rw [hq, e1, e2]
      exact ⟨rfl, rfl, rfl, rfl⟩
    · obtain ⟨e1, e2, e3⟩ := Chan.marked_cleared (cfg := cfg) present hs
      rw [e3]
      refine ⟨e1, e2, ?_⟩
      split <;> rfl

/-- Settles O22: the two escalations as cases of the channel's turn. -/
theorem escalationsLatch : Obligations.EscalationsLatch := by
  refine ⟨fun k inp s s1 h hk hst hp h0 hr => ?_, fun k inp s s1 h hk hst hm he h0 ht => ?_⟩
  · have hr' := Chan.reaches_iff.2 ⟨h0, hr⟩
    have ht : (s1.past.runItem inp ((persistEvent k).item s1)).st = _ :=
      (congrArg (s1.past.chanItem k) hk).trans (State.chanItem_persist hst hp hr')
    obtain ⟨hf, hc, hne, hpend, -⟩ := State.setChan_noteOn _ _ _ _ ht
    exact ⟨_, occurs h (State.persistDue_of hk hst hp hr') rfl, hf, hc, hne, hpend⟩
  · have ht' : (s1.past.runItem inp ((starveEvent k).item s1)).st = _ :=
      (congrArg (s1.past.chanItem k) hk).trans (State.chanItem_starved hst hm he h0 ht)
    obtain ⟨hf, hc, hne, hpend, -⟩ := State.setChan_noteOn _ _ _ _ ht'
    exact ⟨_, occurs h (State.starveDue_of hk (Chan.starved_of hst hm he h0 ht)) rfl, hf, hc, hne, hpend⟩

/-- Settles O23: the commit's own laws on the scope that has become idle. -/
theorem armedCommitAppliesAtItsMark : Obligations.ArmedCommitAppliesAtItsMark := by
  refine ⟨fun inp s s1 m h ha hm => ?_, fun inp k s s1 h ha hm => ?_⟩
  · have ht : (s1.past.runItem inp ((armedCommitEvent .table).item s1)).st = s1.past.applyArmed .table :=
      (congrArg (fun i => (s1.past.runItem inp i).st) (armedItem_table ha)).trans (State.commitItem_applies hm ha)
    exact ⟨_, occurs h (commitDue_of ha hm) ht, State.applyCommit_table _⟩
  · have ha' := armed_channel ha
    have ht : (s1.past.runItem inp ((armedCommitEvent (.channel k)).item s1)).st = s1.past.applyArmed (.channel k) :=
      State.commitItem_applies hm ha'
    exact ⟨_, occurs h (commitDue_of ha' hm) ht, State.applyCommit_channel _ k⟩

end

section
/-! SUPPORT. The events of the scrubber, the clock monitor and the keepalive supervisor in phase 2. -/

namespace Sys2Proof.Machine

/-! ### Raises of hard criticals and Protective resets -/

/-- A raise does not depend on the blocks that it leaves. -/
theorem Raises.congr {src : Source} {c : Cause} {level : Level} {s s' t : State} (h : Raises src c level s t)
    (hc : s.chans = s'.chans) (hcs : s.causes = s'.causes) (hj : s.journal = s'.journal) (ha : s.arb = s'.arb)
    (ht : s.time = s'.time) : Raises src c level s' t := by
  unfold Raises raiseOffer raiseBase at h ⊢
  rw [← hc, ← hcs, ← hj, ← ha, ← ht]
  exact h

/-- A Protective reset does not depend on the blocks that it sets (R171). -/
theorem ProtReset.congr {why : ProtCause} {u v t : State} {tick : Option OpenTick} {sup : Sup} {safeIn : Cond}
    {scrub : Scrubber} {chans : Vector Chan 4} {wdg : Watchdog} {pend : Vector (Option Pend) 22}
    (h : ProtReset why u t) (h1 : wdg.cw = v.wdg.cw) (h2 : wdg.ow = v.wdg.ow) (h3 : wdg.st = v.wdg.st)
    (hv : u = { v with
      tick := tick, sup := sup, safeIn := safeIn, scrub := scrub, chans := chans, wdg := wdg
      arb := { v.arb with pend := pend } }) : ProtReset why v t := by
  subst hv
  unfold ProtReset at h ⊢
  dsimp only at h
  rw [h1, h2, h3] at h
  exact h

/-- A raise that goes on (R145). -/
theorem State.raiseHard_goes {s : State} {src : Source} {c : Cause} {other : Source} (h : other ≠ src) (hj : other ≠ jth)
    (hu : s.unserved other = false) : s.raiseHard src c other = .goes (s.raised src c) := by
  rw [State.raiseHard_eq, s.raised_unserved c h hj, hu]
  rfl

/-- A raise that meets the other critical unserved (R147). -/
theorem State.raiseHard_conflict {s : State} {src : Source} {c : Cause} {other : Source} (h : other ≠ src)
    (hj : other ≠ jth) (hu : s.unserved other = true) :
    s.raiseHard src c other = .abandoned ((s.raised src c).protReset .conflict) := by
  rw [State.raiseHard_eq, s.raised_unserved c h hj, hu]
  rfl

/-- A raise changes the cause set, the channels, the journal and the arbiter alone. -/
theorem State.raised_blocks (s : State) (src : Source) (c : Cause) :
    s.raised src c = { s with
      causes := (s.raised src c).causes, chans := (s.raised src c).chans, journal := (s.raised src c).journal
      arb := (s.raised src c).arb } := by
  have ha := congrArg State.arb (s.raised_eq src c)
  have hc := congrArg State.causes (s.raised_eq src c)
  rw [ha, hc]
  exact s.raised_eq src c

/-- A raise by its records: the cause is in the set and the Assert record in the journal (R145). -/
theorem State.raised_records (s : State) {src : Source} (c : Cause) {level : Level} (h : src ≠ jth)
    (hl : s.effLevel src = level) :
    s.raised src c = { s with
      causes := s.causes ||| c.bits, journal := (raiseOffer s src c level).journal, chans := (s.raised src c).chans
      arb := { s.arb with pend := (s.raised src c).arb.pend } } := by
  obtain ⟨-, -, hj, -, -, -⟩ := s.raised_raises c h hl
  rw [← hj]
  exact s.raised_eq src c

/-- The end of a hard critical: a Clear record and no more (R10, Table 3-4). -/
theorem State.clearHard_eq (s : State) (src : Source) :
    s.clearHard src = { s with
      journal := (s.journal.offer ⟨.clear false, some src, 0xF, none, s.time.tstamp⟩).journal
      arb := { s.arb with pend := (s.clearHard src).arb.pend } } := State.record_eq _ _

theorem State.clearHard_pend_ne (s : State) (src : Source) {b : Source} (h : b ≠ jth) :
    (s.clearHard src).arb.pend[b] = s.arb.pend[b] := State.record_pend_ne _ _ h

/-! ### The scrubber -/

theorem State.scrubItem_reads {s : State} (hv : s.staging.tableValid = true) (hp : s.scrub.pacing.val = 63) :
    s.scrubItem = s.scrubRead := by
  unfold State.scrubItem
  rw [if_pos hv, if_neg (by rw [hp]; decide)]

theorem State.scrubRead_next {s : State} (h : s.scrub.position.val + 1 < 22) :
    s.scrubRead = .goes { s with
      scrub := { s.scrub with position := ⟨s.scrub.position.val + 1, h⟩, pacing := 0, acc := s.scrubAcc } } := dif_pos h

theorem State.scrubRead_end {s : State} (hp : s.scrub.position.val = 21) : s.scrubRead = s.scrubPassEnd :=
  dif_neg (by omega)

theorem State.scrubDue_of {s : State} (hv : s.staging.tableValid = true) (hp : s.scrub.pacing.val = 63) :
    s.scrubDue = true := by
  unfold State.scrubDue
  rw [hv, hp]
  rfl

/-- The end of a pass is open where its read is (R54, R55). -/
theorem ItemOpen.passEnd {inp : Samples} {s s1 : State} (h : ItemOpen scrubReadEvent inp s s1) :
    ItemOpen scrubPassEvent inp s s1 := by
  obtain ⟨hr, hw, ht⟩ := h
  refine ⟨hr, hw.imp id fun ⟨hn, hs⟩ => ⟨?_, hs⟩, ht⟩
  unfold State.meets at hn ⊢
  rw [Option.filter_eq_none_iff] at hn ⊢
  intro u hu
  have := hn u hu
  split at this
  · simp_all [scrubReadEvent, scrubPassEvent, plainEvent]
  · simp_all

/-- The state at the end of a pass with the next pass begun (R55). -/
abbrev State.nextPass (s : State) (cond : Bool) : State :=
  { s with scrub := ⟨0, 0, 0xFFFF, s.scrub.ref, cond⟩ }

theorem State.scrubPassEnd_eq (s : State) :
    s.scrubPassEnd =
      if s.scrubAcc = s.scrub.ref then
        if s.scrub.tblCond then .goes ((s.nextPass false).clearHard tblSrc) else .goes (s.nextPass false)
      else if s.scrub.tblCond then .goes (s.nextPass true) else (s.nextPass true).raiseHard tblSrc .table clkSrc := by
  unfold State.scrubPassEnd
  by_cases h : s.scrubAcc = s.scrub.ref
  · have hb : (s.scrubAcc == s.scrub.ref) = true := beq_iff_eq.2 h
    simp only [hb, if_pos h]
    rfl
  · have hb : (s.scrubAcc == s.scrub.ref) = false := beq_eq_false_iff_ne.2 h
    simp only [hb, if_neg h]
    rfl

theorem State.scrubPassEnd_quiet {s : State} (h : s.scrubAcc = s.scrub.ref ↔ s.scrub.tblCond = false) :
    s.scrubPassEnd = .goes (s.nextPass s.scrub.tblCond) := by
  rw [State.scrubPassEnd_eq]
  by_cases hm : s.scrubAcc = s.scrub.ref
  · have hc := h.1 hm
    rw [if_pos hm, hc]
    rfl
  · have hc : s.scrub.tblCond = true := Bool.not_eq_false _ ▸ mt h.2 hm
    rw [if_neg hm, hc]
    rfl

theorem State.scrubPassEnd_clears {s : State} (hm : s.scrubAcc = s.scrub.ref) (hc : s.scrub.tblCond = true) :
    s.scrubPassEnd = .goes ((s.nextPass false).clearHard tblSrc) := by
  rw [State.scrubPassEnd_eq, if_pos hm, if_pos hc]

theorem State.scrubPassEnd_raises {s : State} (hm : s.scrubAcc ≠ s.scrub.ref) (hc : s.scrub.tblCond = false) :
    s.scrubPassEnd = (s.nextPass true).raiseHard tblSrc .table clkSrc := by
  rw [State.scrubPassEnd_eq, if_neg hm, hc]
  rfl

/-! ### The return to REF -/

/-- A tick in which the return to REF is due. -/
def State.ToRef (s : State) : Prop := s.clk.toRef = true ∧ s.clk.handOffs = []

theorem State.ToRef.endTick {s : State} (h : s.ToRef) : s.clk.endTick.src = .ref := by
  unfold ClockMon.endTick
  rw [if_pos h.1]

theorem State.lineItem_clk (s : State) (k : LineNo) (level : Bool) : (s.lineItem k level).clk = s.clk := by
  unfold State.lineItem State.lineRaw
  dsimp only
  (repeat' split) <;> simp

theorem State.ToRef.runItem {s : State} (h : s.ToRef) (inp : Samples) (i : Item) :
    (s.runItem inp i).Holds State.ToRef fun t => t.clk.src = .ref := by
  have keeps : ∀ {p : Progress}, KeepsClk s p → p.Holds State.ToRef fun t => t.clk.src = .ref := fun hp =>
    hp.mono (fun t e => by unfold State.ToRef; rw [e]; exact h) fun t e => by rw [e]; exact h.endTick
  cases i with
  | line k => exact keeps (.goes (s.lineItem_clk k _))
  | sup => exact keeps (.goes (by simp))
  | safeIn => exact keeps (.goes (by simp))
  | wdg => exact keeps s.wdgItem_clk
  | scrub => exact keeps s.scrubItem_clk
  | clk =>
    refine (?_ : s.clkItem.Holds _ _)
    unfold State.clkItem
    rw [h.2]
    exact .goes h
  | chan k => exact keeps (.goes (by simp))
  | keepMarks => exact keeps (.goes rfl)
  | commitTable k => exact keeps (.goes (by unfold State.commitItem; split <;> simp))
  | commitChannel k => exact keeps (.goes (by unfold State.commitItem; split <;> simp))
  | outputs => exact keeps (.goes rfl)
  | irq => exact keeps (.goes rfl)
  | holdoff => exact keeps (.goes rfl)

theorem State.ToRef.runItems (inp : Samples) (l : List Item) : ∀ {s : State}, s.ToRef →
    (runItems inp l s).Holds State.ToRef fun t => t.clk.src = .ref := by
  induction l with
  | nil => exact fun h => .goes h
  | cons i rest ih => exact fun h => (h.runItem inp i).bind fun t ht => ih ht

/-- When the tick of the clear has ended the source is REF (R10, log entry 12). -/
theorem State.ToRef.settle {s : State} (h : s.ToRef) (ht : s.tick ≠ none) : s.settle.clk.src = .ref := by
  unfold State.settle
  split
  · contradiction
  · exact ((State.ToRef.runItems _ _ h).bind (Q := fun t => t.clk.src = .ref) fun u hu => .goes hu.endTick).st
      (fun _ x => x) fun _ x => x

/-! ### The clock monitor's item -/

theorem State.clkItem_clear {s : State} (h : s.clk.handOffs = [.clear]) :
    s.clkItem = .goes (({ s with clk := { s.clk with
      handOffs := [], seen := s.clk.mon, cond := false, toRef := true } } : State).clearHard clkSrc) := by
  unfold State.clkItem
  rw [h]
  rfl

theorem State.clkItem_raise {s : State} (h : s.clk.handOffs = [.raise]) :
    s.clkItem = ({ s with clk := { s.clk with
      handOffs := [], seen := s.clk.mon, cond := true, toRef := false } } : State).raiseHard clkSrc .clock tblSrc := by
  unfold State.clkItem
  rw [h]
  unfold handOffsFrom State.handOff
  dsimp only
  rw [State.raiseHard_eq]
  split <;> rfl

/-! ### The supervisor's item -/

theorem Watchdog.expires_iff (w : Watchdog) : w.expires = true ↔ w.length.toNat * 1024 ≤ w.timerNow := decide_eq_true_iff

theorem windowEvent_due {s : State} {inp : Samples} {st : WdgState} (hs : s.wdg.st = st) (he : s.wdg.expires = true) :
    (windowEvent st).due inp s = true := by
  subst hs
  refine (Bool.and_eq_true _ _).mpr ⟨?_, he⟩
  exact beq_self_eq_true _

theorem State.wdgItem_opens {s : State} (hs : s.wdg.st = .closed) (he : s.wdg.expires = true) :
    s.wdgItem = .goes { s with wdg := { s.wdg with st := .opened, timer := 0, length := s.wdg.ow, fresh := false } } := by
  unfold State.wdgItem
  rw [hs, he]
  rfl

theorem State.wdgItem_lapses {s : State} (hs : s.wdg.st = .opened) (he : s.wdg.expires = true) :
    s.wdgItem = .goes (({ s with wdg := { s.wdg with
      st := .lapsed, timer := 0, length := s.wdg.ow, fresh := false, lnk := some (s.capture lnkSrc 9) } } : State).asserted
        lnkSrc (s.capture lnkSrc 9) true) := by
  unfold State.wdgItem
  rw [hs, he]
  rfl

/-- An assertion on a state with another supervisor (R152). -/
theorem State.asserted_withWdg (s : State) (w : Watchdog) (src : Source) (x : Contribution) (b : Bool) {t : State}
    (ht : t = ({ s with wdg := w } : State).asserted src x b) :
    t.wdg = w ∧
    t = { s with wdg := t.wdg, chans := t.chans, causes := t.causes, journal := t.journal, arb := t.arb } := by
  have hw : t.wdg = w := by rw [ht]; simp
  refine ⟨hw, ?_⟩
  rw [hw, ht]
  exact State.asserted_blocks _ src x b

theorem State.wdgItem_escalates {s : State} (hs : s.wdg.st = .lapsed) (he : s.wdg.expires = true) :
    s.wdgItem = .abandoned (({ s with wdg := { s.wdg with timer := s.wdg.timerNow, fresh := false } } : State).protReset
      .linkEscalation) := by
  unfold State.wdgItem
  rw [hs, he]
  rfl

end Sys2Proof.Machine

open Sys2Proof Sys2Proof.Machine

/-- Settles O24: the scrubber's item by position, comparison and condition. -/
theorem scrubberReadsAndEndsItsPass : Obligations.ScrubberReadsAndEndsItsPass := by
  intro inp s s1 acc h hv hpace hacc
  have hd := State.scrubDue_of hv hpace
  have hitem : s1.past.runItem inp (scrubReadEvent.item s1) = s1.past.scrubRead := State.scrubItem_reads hv hpace
  have ha : s1.past.scrubAcc = acc := hacc.symm
  have pass : ∀ {t : State}, s1.scrub.position.val = 21 → s1.past.scrubPassEnd.st = t →
      exec .scrubPassEnd s = .next t := fun {t} hp he => by
    refine occurs h.passEnd ?_ ((congrArg Progress.st (hitem.trans (State.scrubRead_end hp))).trans he)
    refine (Bool.and_eq_true _ _).mpr ⟨hd, ?_⟩
    exact beq_iff_eq.mpr (Fin.ext hp)
  refine ⟨fun hp => ?_, fun hp => ?_, fun hp hc => pass hp ?_, fun hp hm hc => ?_, fun hp hm hc hu => ?_,
    fun hp hm hc hu => ?_⟩
  · refine occurs h hd ((congrArg Progress.st hitem).trans ?_)
    rw [State.scrubRead_next (s := s1.past) hp, ha]
    rfl
  · exact (occurs h hd (congrArg Progress.st (hitem.trans (State.scrubRead_end hp)))).trans (pass hp rfl).symm
  · rw [State.scrubPassEnd_quiet (by rw [ha]; exact hc)]
    rfl
  · refine ⟨_, pass hp (congrArg Progress.st (State.scrubPassEnd_clears (ha.trans hm) hc)), State.clearHard_eq _ _,
      fun b hb => State.clearHard_pend_ne _ _ hb⟩
  · have hr := (State.scrubPassEnd_raises (s := s1.past) (by rw [ha]; exact hm) hc).trans
      (State.raiseHard_goes (by decide) (by decide) hu)
    have hraise : Raises tblSrc .table 10 (s1.past.nextPass true) _ := State.raised_raises _ (src := tblSrc) .table (by decide) rfl
    refine ⟨_, pass hp (congrArg Progress.st hr), hraise.congr rfl rfl rfl rfl rfl, ?_⟩
    exact State.raised_blocks _ _ _
  · have hr := (State.scrubPassEnd_raises (s := s1.past) (by rw [ha]; exact hm) hc).trans
      (State.raiseHard_conflict (by decide) (by decide) hu)
    refine ⟨_, pass hp (congrArg Progress.st hr), ?_⟩
    exact (State.protReset_spec _ _).congr rfl rfl rfl (State.raised_records _ (src := tblSrc) .table (by decide) rfl)

/-- Settles O26: the clock monitor's item with one hand-off. -/
theorem clockHandOffsAct : Obligations.ClockHandOffsAct := by
  have due : ∀ {inp : Samples} {s : State} {o : HandOff}, s.clk.handOffs = [o] →
      (plainEvent .clk fun _ s => s.clk.handOffs.head? == some o).due inp s = true := fun {_ s o} h => by
    refine beq_iff_eq.mpr ?_
    rw [h]
    rfl
  refine ⟨fun inp s s1 h hh hu => ?_, fun inp s s1 h hh => ?_, fun inp s s1 h hh hu => ?_⟩
  · have hr := (State.clkItem_raise (s := s1.past) hh).trans (State.raiseHard_goes (by decide) (by decide) hu)
    exact ⟨_, occurs h (due hh) (congrArg Progress.st hr),
      (State.raised_raises _ (src := clkSrc) .clock (by decide) rfl).congr rfl rfl rfl rfl rfl, State.raised_blocks _ _ _⟩
  · obtain ⟨-, -, rest, ht⟩ := id h
    have hr := State.clkItem_clear (s := s1.past) hh
    refine ⟨_, occurs h (due hh) (congrArg Progress.st hr), ?_, State.clearHard_eq _ _,
      fun b hb => State.clearHard_pend_ne _ _ hb⟩
    refine State.ToRef.settle ⟨?_, ?_⟩ ?_ <;> simp [State.past, ht]
  · have hr := (State.clkItem_raise (s := s1.past) hh).trans (State.raiseHard_conflict (by decide) (by decide) hu)
    exact ⟨_, occurs h (due hh) (congrArg Progress.st hr),
      (State.protReset_spec _ _).congr rfl rfl rfl (State.raised_records _ (src := clkSrc) .clock (by decide) rfl)⟩

/-- Settles O27: the supervisor's item when its window ends in each state. -/
theorem keepaliveWindowsEnd : Obligations.KeepaliveWindowsEnd := by
  refine ⟨fun inp s s1 h hs ht => ?_, fun inp s s1 h hs ht => ?_, fun inp s s1 h hs ht => ?_⟩
  · have he := (Watchdog.expires_iff s1.wdg).2 ht
    exact occurs h (windowEvent_due hs he) (congrArg Progress.st (State.wdgItem_opens (s := s1.past) hs he))
  · have he := (Watchdog.expires_iff s1.wdg).2 ht
    have hr := congrArg Progress.st (State.wdgItem_lapses (s := s1.past) hs he)
    obtain ⟨hw, hf⟩ := State.asserted_withWdg s1.past { s1.wdg with
      st := .lapsed, timer := 0, length := s1.wdg.ow, fresh := false, lnk := some (s1.capture lnkSrc 9) }
      lnkSrc (s1.capture lnkSrc 9) true hr
    refine ⟨_, occurs h (windowEvent_due hs he) rfl, hf, fun x hx => ?_⟩
    subst hx
    refine ⟨hw, ?_⟩
    rw [show s1.past.runItem inp (lateViolationEvent.item s1) = s1.past.wdgItem from rfl, hr]
    exact (State.asserted_asserts _ (src := lnkSrc) _ true (by decide)).congr rfl rfl rfl rfl rfl
  · have he := (Watchdog.expires_iff s1.wdg).2 ht
    refine ⟨_, occurs h (windowEvent_due hs he) (congrArg Progress.st (State.wdgItem_escalates (s := s1.past) hs he)), ?_⟩
    exact (State.protReset_spec _ _).congr (wdg := { s1.wdg with timer := s1.wdg.timerNow, fresh := false }) rfl rfl rfl rfl

end

section
/-! SUPPORT. The queue, which no command touches. -/

namespace Sys2Proof.Machine

/-- A part of a tick that leaves the queue, however it ends. -/
abbrev KeepsQueue (q : List Instr) (p : Progress) : Prop :=
  p.Holds (fun t => t.pending = q) fun t => t.pending = q

section
variable {q : List Instr} {s : State}

theorem State.softReset_queue (s : State) (kind : ResetKind) (cold : Bool) : (s.softReset kind cold).pending = s.pending := by
  have hb : (s.softResetBlocks kind cold).pending = s.pending := rfl
  unfold State.softReset
  dsimp only
  split <;> simp [hb]

theorem State.raiseHard_queue (h : s.pending = q) (src : Source) (c : Cause) (other : Source) :
    KeepsQueue q (s.raiseHard src c other) := by
  have e : (s.raised src c).pending = q := by simp [State.raised, h]
  rw [State.raiseHard_eq]
  split
  · exact .abandoned ((State.softReset_queue _ _ _).trans e)
  · exact .goes e

theorem State.wdgItem_queue (h : s.pending = q) : KeepsQueue q s.wdgItem := by
  unfold State.wdgItem
  dsimp only
  split
  · exact .goes h
  · split <;> exact .goes h
  · split
    · exact .goes (by simpa using h)
    · exact .goes h
  · split
    · exact .abandoned ((State.softReset_queue _ _ _).trans h)
    · exact .goes h

theorem State.scrubItem_queue (h : s.pending = q) : KeepsQueue q s.scrubItem := by
  unfold State.scrubItem
  split
  · split
    · exact .goes h
    · unfold State.scrubRead
      split
      · exact .goes h
      · rw [State.scrubPassEnd_eq]
        split
        · split
          · exact .goes (by simpa using h)
          · exact .goes h
        · split
          · exact .goes h
          · exact State.raiseHard_queue (s := s.nextPass true) h _ _ _
  · exact .goes h

theorem handOffsFrom_queue (l : List HandOff) : ∀ {s : State}, s.pending = q → KeepsQueue q (handOffsFrom l s) := by
  induction l with
  | nil => exact fun h => .goes h
  | cons o rest ih =>
    refine fun {s} h => Progress.Holds.bind (M := fun t => t.pending = q) ?_ fun t ht => ih ht
    cases o with
    | raise =>
      unfold State.handOff
      exact State.raiseHard_queue (by exact h) _ _ _
    | clear => exact .goes (by simpa using h)

theorem ActMove.queue {s t : State} (hm : ActMove s t) : t.pending = s.pending := by
  cases hm with
  | lapse _ => simp [State.lapseNow]
  | _ => simp

theorem Keeps.queue (q : List Instr) : Keeps (fun s => s.pending = q) fun _ s => s.pending = q where
  link _ _ h := h
  holdWord _ _ h := h
  pins _ _ h := h
  clock _ _ h := h
  por _ h := h
  pin s h hr := by
    rw [State.pinLow, if_neg (by simp [hr])]
    exact h
  beginTick s inp h := by simpa [State.beginTick] using h
  leave _ _ _ h _ := h
  opened _ _ h _ := h
  finish _ _ h := h
  linkM _ _ _ h := h
  tickM _ _ _ h := h
  countError _ h := h
  act s code armed args h := by
    generalize ho : actByCode code armed args s = o
    cases ho ▸ actByCode_move code armed args s with
    | done hm => exact .done (hm.queue.trans h)
    | reset hr => exact .reset (hr ▸ (State.softReset_queue _ _ _).trans h)
  write s tag start count data h :=
    State.applyWrite_keeps (P := fun t => t.pending = q) (fun _ _ h => h)
      (fun t r w h _ => by cases r <;> simp [Reg.store, h]) h _ _ _ _
  line s k a _ h _ := by simpa using h
  lineOff _ _ _ h _ := h
  sup s low _ h := by simpa using h
  safeIn s level _ h := by simpa using h
  wdg _ _ h := State.wdgItem_queue h
  scrub _ _ h := State.scrubItem_queue h
  clk s _ h := handOffsFrom_queue _ h
  chan s k mark _ h := by simpa using h
  keepMarks _ _ _ h := h
  commitTable s k _ h := by
    unfold State.commitItem
    split
    · simpa using h
    · exact h
  commitChannel s k _ h := by
    unfold State.commitItem
    split
    · simpa using h
    · exact h
  outputs _ _ h := h
  irq _ _ _ h := h
  holdoff _ _ h := h

end

/-! ### The pins and the clock monitor's commands -/

theorem setPin_getLsbD (m : BitVec 4) (j k : Channel) (level : Bool) :
    (setPin m k level).getLsbD j.val = if j = k then level else m.getLsbD j.val := setArmed_getLsbD m j k level

/-- An output after an edge of PWMA (R90). -/
theorem State.outLevel_setA (s : State) (k : Channel) (level : Bool) (i : Fin 8) :
    ({ s with pins := { s.pins with pa := setPin s.pins.pa k level } } : State).outLevel i =
      if s.outs.layers[i] = .pwm ∧ i.val = k.val then level else s.outLevel i := by
  unfold State.outLevel
  by_cases hl : s.outs.layers[i] = .pwm
  · by_cases hi : i.val < 4
    · have e := setPin_getLsbD s.pins.pa ⟨i.val, hi⟩ k level
      simp only [Fin.ext_iff] at e
      simp only [hl, hi, e, if_true, true_and]
    · have hne : i.val ≠ k.val := by omega
      simp only [hl, hi, hne, if_true, if_false, and_false]
  · simp only [hl, if_false, false_and]

/-- An output after an edge of PWMB (R90). -/
theorem State.outLevel_setB (s : State) (k : Channel) (level : Bool) (i : Fin 8) :
    ({ s with pins := { s.pins with pb := setPin s.pins.pb k level } } : State).outLevel i =
      if s.outs.layers[i] = .pwm ∧ i.val = k.val + 4 then level else s.outLevel i := by
  unfold State.outLevel
  by_cases hl : s.outs.layers[i] = .pwm
  · by_cases hi : i.val < 4
    · have hne : i.val ≠ k.val + 4 := by omega
      simp only [hl, hi, hne, if_true, if_false, and_false]
    · have e := setPin_getLsbD s.pins.pb ⟨i.val - 4, by omega⟩ k level
      have hiff : i.val - 4 = k.val ↔ i.val = k.val + 4 := by omega
      simp only [Fin.ext_iff, hiff] at e
      simp only [hl, hi, e, if_true, if_false, true_and]
  · simp only [hl, if_false, false_and]

section
variable {c : ClockMon}

theorem ClockMon.take_counts (h : c.mon = .recovering) (hr : c.recovery < 4095) :
    c.take .goodPeriod = { c with gap := 0, recovery := c.recovery + 1 } := by
  have e : c.take .goodPeriod = c.goodPeriod := by simp only [ClockMon.take, h]
  exact e.trans (if_pos (Nat.succ_lt_succ hr))

theorem ClockMon.take_completes (h : c.mon = .recovering) (hr : 4095 ≤ c.recovery) :
    c.take .goodPeriod = c.recovered := by
  simp only [ClockMon.take, h]
  exact if_neg (Nat.not_lt.2 (Nat.succ_le_succ hr))

end

end Sys2Proof.Machine

open Sys2Proof Sys2Proof.Machine

/-- Settles O1: a step's own two branches. -/
theorem stepTakesTheFrontCommand : Obligations.StepTakesTheFrontCommand := by
  refine ⟨fun c rest s => rfl, fun s h => ?_⟩
  unfold step
  rw [h]

/-- Settles O2: every command keeps the queue, by `Keeps.exec`. -/
theorem everyCommandAnswers : Obligations.EveryCommandAnswers :=
  fun c s => (Keeps.queue s.pending).exec rfl c

/-- Settles O25: the monitor's transitions in each of its states. -/
theorem clockMonitorTransitions : Obligations.ClockMonitorTransitions := by
  have acts : ∀ {u : State} {e : ClockEvent} {c : ClockMon}, u.clk.take e = c →
      (Host.Outcome.next (u.clockEvent e) : Answer) = .next { u with clk := c } := fun h => by rw [← h]; rfl
  refine ⟨fun s u hu h => ?_, fun s u hu h => ?_, fun s u hu h => ?_, fun s u hu h hr => ?_, fun s u hu h hr c hc => ?_,
    fun s u hu h => ?_⟩
  all_goals subst hu
  · exact acts (if_pos h)
  · exact acts (if_pos h)
  · exact acts (if_pos h)
  · exact acts (ClockMon.take_counts h hr)
  · rcases hc with rfl | rfl
    · exact acts (if_pos ⟨h, Nat.succ_le_succ hr⟩)
    · exact acts (ClockMon.take_completes h hr)
  · exact acts (by simp only [ClockMon.take, h])

/-- Settles O28: the resets' own branches. -/
theorem powerAndPinResets : Obligations.PowerAndPinResets :=
  ⟨fun _ => rfl, fun _ h => congrArg _ (if_neg (by simp [h])), fun _ h => congrArg _ (if_pos h), fun _ => rfl, fun _ => rfl⟩

/-- Settles O29: the pins are the only input of an output under layer 5. -/
theorem pwmEdgeReachesItsOutput : Obligations.PwmEdgeReachesItsOutput := by
  intro k side level s
  cases side with
  | a =>
    refine ⟨_, rfl, rfl, rfl, fun j => ⟨?_, ?_⟩, fun i => ?_⟩
    · simpa using setPin_getLsbD s.pins.pa j k level
    · simp
    · exact State.outLevel_setA s k level i
  | b =>
    refine ⟨_, rfl, rfl, rfl, fun j => ⟨?_, ?_⟩, fun i => ?_⟩
    · simp
    · simpa using setPin_getLsbD s.pins.pb j k level
    · exact State.outLevel_setB s k level i

end

section
/-! SUPPORT. The arbiter's winner and the journal's insertion policy. -/

namespace Sys2Proof.Machine

/-! ### The winner -/

/-- Among the eligible sources of `l`, `w` has the highest level, and the lowest number among equals (R130). -/
def State.Wins (s : State) (l : List Source) (w : Source) : Prop :=
  w ∈ l ∧ s.eligible w = true ∧ ∀ b ∈ l, s.eligible b = true →
    (s.effLevel b).val < (s.effLevel w).val ∨ (s.effLevel b = s.effLevel w ∧ w.val ≤ b.val)

/-- What the search has found among the sources `l`. -/
def State.Found (s : State) (l : List Source) : Option Source → Prop
  | none => ∀ b ∈ l, s.eligible b = false
  | some w => s.Wins l w

section
variable {s : State} {l : List Source}

/-- One source more that is not eligible changes nothing. -/
theorem State.Found.skip {o : Option Source} {a : Source} (h : s.Found l o) (ha : s.eligible a = false) :
    s.Found (l ++ [a]) o := by
  have hb : ∀ b ∈ l ++ [a], s.eligible b = true → b ∈ l := by
    intro b hb he
    rcases List.mem_append.1 hb with hb | hb
    · exact hb
    · rw [List.mem_singleton.1 hb, ha] at he
      cases he
  cases o with
  | none => exact fun b hm => Bool.eq_false_iff.2 fun he => by simp [h b (hb b hm he)] at he
  | some w =>
    obtain ⟨hw, hel, hall⟩ := h
    exact ⟨List.mem_append_left _ hw, hel, fun b hm he => hall b (hb b hm he) he⟩

/-- One source more, of a higher number, is taken by `better` as R130 has it. -/
theorem State.Found.better {o : Option Source} {a : Source} (h : s.Found l o) (hlt : ∀ b ∈ l, b.val < a.val) :
    s.Found (l ++ [a]) (s.better o a) := by
  unfold State.better
  by_cases ha : s.eligible a = true
  · rw [if_pos ha]
    cases o with
    | none =>
      refine ⟨by simp, ha, fun b hm he => ?_⟩
      rcases List.mem_append.1 hm with hb | hb
      · simp [h b hb] at he
      · rw [List.mem_singleton.1 hb]
        exact .inr ⟨rfl, Nat.le_refl _⟩
    | some w =>
      obtain ⟨hw, hel, hall⟩ := h
      dsimp only
      split
      · rename_i hgt
        refine ⟨by simp, ha, fun b hm he => ?_⟩
        rcases List.mem_append.1 hm with hb | hb
        · refine .inl ?_
          rcases hall b hb he with hl | ⟨hl, -⟩
          · exact Nat.lt_trans hl hgt
          · rw [hl]
            exact hgt
        · rw [List.mem_singleton.1 hb]
          exact .inr ⟨rfl, Nat.le_refl _⟩
      · rename_i hle
        refine ⟨List.mem_append_left _ hw, hel, fun b hm he => ?_⟩
        rcases List.mem_append.1 hm with hb | hb
        · exact hall b hb he
        · rw [List.mem_singleton.1 hb]
          rcases Nat.lt_or_eq_of_le (Nat.le_of_not_lt hle) with hl | hl
          · exact .inl hl
          · exact .inr ⟨Fin.ext hl, Nat.le_of_lt (hlt w hw)⟩
  · rw [if_neg ha]
    exact h.skip (Bool.eq_false_iff.2 ha)

/-- The search over sources in natural order finds the winner among them. -/
theorem State.found_foldl (s : State) (l : List Source) :
    l.Pairwise (fun a b => a.val < b.val) → s.Found l (l.foldl s.better none) := by
  induction l using List.reverseRecOn with
  | nil => exact fun _ => fun b hb => absurd hb List.not_mem_nil
  | append_singleton l a ih =>
    intro hp
    obtain ⟨hl, -, hlt⟩ := List.pairwise_append.1 hp
    rw [List.foldl_append]
    exact (ih hl).better fun b hb => hlt b hb a (List.mem_singleton_self a)

/-- At most one source wins. -/
theorem State.Wins.unique {w v : Source} (hw : s.Wins l w) (hv : s.Wins l v) : w = v := by
  obtain ⟨mw, ew, aw⟩ := hw
  obtain ⟨mv, ev, av⟩ := hv
  refine Fin.ext ?_
  rcases aw v mv ev with h | ⟨h, h'⟩ <;> rcases av w mw ew with g | ⟨g, g'⟩
  · omega
  · rw [g] at h
    omega
  · rw [h] at g
    omega
  · omega

end

theorem mem_allSources (b : Source) : b ∈ allSources := by revert b; decide

theorem State.winner_found (s : State) : s.Found allSources s.winner := s.found_foldl allSources (by decide)

theorem State.winner_some (s : State) (w : Source) : s.winner = some w ↔ s.Wins allSources w := by
  have h := s.winner_found
  constructor
  · intro e
    rw [e] at h
    exact h
  · intro hw
    generalize s.winner = o at h
    cases o with
    | none =>
      obtain ⟨hm, he, -⟩ := hw
      exact absurd (h w hm) (by simp [he])
    | some v => exact congrArg some (State.Wins.unique h hw)

theorem State.winner_none (s : State) : s.winner = none ↔ ∀ b : Source, s.eligible b = false := by
  have h := s.winner_found
  constructor
  · intro e b
    rw [e] at h
    exact h b (mem_allSources b)
  · intro ha
    generalize s.winner = o at h
    cases o with
    | none => rfl
    | some v =>
      obtain ⟨-, he, -⟩ := h
      exact absurd he (by simp [ha v])

theorem State.eligible_iff (s : State) (b : Source) :
    s.eligible b = true ↔
      (∃ p, s.arb.pend[b] = some p) ∧ s.arb.sl.val < (s.effLevel b).val ∧ (s.arb.hd = 0 ∨ 7 ≤ (s.effLevel b).val) := by
  unfold State.eligible State.eligibleWith State.isPending
  simp only [Bool.and_eq_true, Bool.or_eq_true, Bool.not_eq_true', bne_eq_false_iff_eq, decide_eq_true_iff,
    Option.isSome_iff_exists, and_assoc]
  exact Iff.rfl

/-! ### The insertion policy -/

section
variable (j : Journal) (b : RecBody)

theorem Journal.offer_room (h : (b.isProtected = true ∧ j.queue.length < 32) ∨ j.queue.length < 28) :
    j.offer b = ⟨j.append j.queue b, some j.nextSeq, true⟩ := by
  have h32 : Config.journalSlots = 32 := rfl
  have h28 : Config.journalReserveAt = 28 := rfl
  unfold Journal.offer
  dsimp only
  rw [h32, h28]
  split
  · rw [if_pos (by omega)]
  · rw [if_pos (by simp_all)]

theorem Journal.offer_reserved (hp : b.isProtected = false) (h : 28 ≤ j.queue.length) :
    j.offer b = ⟨j.drop b, none, false⟩ := by
  have h28 : Config.journalReserveAt = 28 := rfl
  unfold Journal.offer
  dsimp only
  rw [hp, h28, if_neg (by simp), if_neg (by omega)]

theorem Journal.offer_evicts {q : List Rec} (hp : b.isProtected = true) (h : 32 ≤ j.queue.length)
    (hq : evictOldest j.queue = some q) :
    j.offer b = ⟨{ j.append q b with evictCnt := satInc j.evictCnt }, some j.nextSeq, false⟩ := by
  have h32 : Config.journalSlots = 32 := rfl
  simp only [Journal.offer, hp, h32, Nat.not_lt.2 h, hq, if_true, if_false]

theorem Journal.offer_overflows (hp : b.isProtected = true) (h : 32 ≤ j.queue.length) (hq : evictOldest j.queue = none) :
    j.offer b = ⟨j.drop b, none, false⟩ := by
  have h32 : Config.journalSlots = 32 := rfl
  simp only [Journal.offer, hp, h32, Nat.not_lt.2 h, hq, if_true, if_false]

/-- A store raises the occupancy exactly if it says so (R123). -/
theorem Journal.offer_raised :
    (j.offer b).journal.queue.length = j.queue.length + (if (j.offer b).raised then 1 else 0) := by
  unfold Journal.offer
  dsimp only
  split
  · split
    · simp [Journal.append]
    · split
      · rename_i q hq
        obtain ⟨before, r, after, h1, h2, -⟩ := evictOldest_some hq
        simp [Journal.append, h1, h2]
      · rfl
  · split
    · simp [Journal.append]
    · rfl

/-- A crossing in the journal's own terms (R123). -/
theorem Journal.offer_crosses :
    (j.offer b).journal.crosses (j.offer b).raised = true ↔
      j.jt ≠ 0 ∧ j.queue.length + 1 = j.jt.val ∧ (j.offer b).journal.queue.length = j.jt.val := by
  have hl := j.offer_raised b
  unfold Journal.crosses
  rw [j.offer_jt]
  generalize (j.offer b).raised = raised at hl
  cases raised
  · simp only [Bool.false_and, Bool.false_eq_true, if_false, false_iff] at hl ⊢
    omega
  · simp only [Bool.true_and, Bool.and_eq_true, bne_iff_ne, beq_iff_eq, if_true] at hl ⊢
    rw [hl]
    tauto

end

/-- The oldest unprotected record goes (R117). -/
theorem evictOldest_split {before after : List Rec} {r : Rec} (hr : r.body.isProtected = false) :
    (∀ x ∈ before, x.body.isProtected = true) → evictOldest (before ++ r :: after) = some (before ++ after) := by
  induction before with
  | nil => simp [evictOldest, hr]
  | cons x rest ih =>
    intro h
    have hx := h x (by simp)
    simp [evictOldest, hx, ih fun y hy => h y (by simp [hy])]

/-- JTH after a record (R123). -/
theorem State.record_pend_jth (s : State) (b : RecBody) :
    (s.record b).arb.pend[jth] =
      if (s.journal.offer b).journal.crosses (s.journal.offer b).raised = true ∧ s.staging.actTab[jth].level ≠ 0 then
        some (match s.arb.pend[jth] with
          | none => ⟨1, none⟩
          | some p => { p with count := satInc p.count })
      else s.arb.pend[jth] := by
  have hlev : (({ s with journal := (s.journal.offer b).journal } : State).effLevel jth != 0) = true ↔
      s.staging.actTab[jth].level ≠ 0 := by
    rw [bne_iff_ne]
    exact not_congr (State.effLevel_table_zero _ (src := jth) (by decide))
  unfold State.record State.offer
  dsimp only
  by_cases h : (s.journal.offer b).journal.crosses (s.journal.offer b).raised = true ∧ s.staging.actTab[jth].level ≠ 0
  · rw [if_pos h, if_pos ((Bool.and_eq_true _ _).mpr ⟨h.1, hlev.2 h.2⟩)]
    exact State.occur_pend _ _ _
  · rw [if_neg h, if_neg fun e => h (((Bool.and_eq_true _ _).mp e).imp_right hlev.1)]

end Sys2Proof.Machine

open Sys2Proof Sys2Proof.Machine

/-- Settles O40: the search through the sources in natural order, by induction on the sources searched. -/
theorem winnerIsHighestThenLowest : Obligations.WinnerIsHighestThenLowest :=
  ⟨fun s w => (s.winner_some w).trans
    ⟨fun ⟨_, he, ha⟩ => ⟨he, fun b => ha b (mem_allSources b)⟩, fun ⟨he, ha⟩ => ⟨mem_allSources w, he, fun b _ => ha b⟩⟩,
    State.winner_none, State.eligible_iff⟩

/-- Settles O50: the policy by the record's protection and the queue's length, and the crossing by the occupancy. -/
theorem insertionPolicy : Obligations.InsertionPolicy := by
  refine ⟨fun s t b o ho ht => ?_, fun j b o ho => ?_⟩
  · subst ho ht
    refine ⟨State.record_eq _ _, fun src h => State.record_pend_ne _ _ h, ?_⟩
    refine (s.record_pend_jth b).trans (if_congr ?_ rfl rfl)
    rw [s.journal.offer_crosses b, and_assoc, and_assoc]
  · subst ho
    refine ⟨fun h => j.offer_room b h, fun hp h => ?_, fun hp h before r after hq hb hr => ?_, fun hp h hall => ?_⟩
    · rw [j.offer_reserved b hp h]
      simp [Journal.drop, hp]
    · exact j.offer_evicts b hp h (by rw [hq, evictOldest_split hr hb])
    · rw [j.offer_overflows b hp h (evictOldest_none.2 hall)]
      simp [Journal.drop, hp]

end

section
/-! SUPPORT. WRITE: the checks and the store of one word, and what a stored word reads back. -/

namespace Sys2Proof.Machine

/-! ### A WRITE of one word -/

section
variable {s : State} {addr : Byte} {r : Reg} {w : Word}

theorem writeWords_one (hr : regAt addr.toNat = some r) : writeWords addr 1 [w] = [(addr.toNat, r, w)] := by
  simp [writeWords, hr, List.range_succ]

theorem rangeCheck_one (hr : regAt addr.toNat = some r) : rangeCheck addr 1 = none := by
  simp [rangeCheck, addresses, List.range_succ, lowestUndefined, hr]

/-- The checks of a word, in their order (R162). -/
theorem State.writeCheck_one (hr : regAt addr.toNat = some r) :
    s.writeCheck addr 1 [w] = firstSome
      [readOnlyHit [(addr.toNat, r, w)], failIf (s.staging.locked && r.lockable) .locked,
       s.shadowBusy [(addr.toNat, r, w)], failIf (r.rangeBad w) (.refused .range),
       failIf (s.inHold && r == .safepat) (.refused .inSafe), failIf (!s.arb.stack.isEmpty && r == .arbcfg) (.refused .stackBusy),
       failIf (r == .wdgcfg && loByte w == 0) (.refused .range),
       failIf (r == .jrnlCfg && decide (32 < w.toNat)) (.refused .range)] := by
  unfold State.writeCheck
  rw [rangeCheck_one hr, writeWords_one hr]
  simp only [List.any_cons, List.any_nil, Bool.or_false]

theorem failIf_false (v : Verdict) : failIf false v = none := rfl

theorem failIf_eq (b : Bool) (v : Verdict) : failIf b v = (if b then some v else none).map fun v => (v, Quad.zero) := by
  cases b <;> rfl

end

/-- A taken WRITE of one word answers the first check that fails with a zero payload, or stores its word (R162). -/
theorem answerWrite_one {f : Frame} {addr : Byte} {r : Reg} {w : Word} {s s1 t : State} {v : Option Verdict}
    (h : TakenWord f addr w s s1) (hr : regAt addr.toNat = some r)
    (hc : s1.endConfirm.breakChain.writeCheck addr 1 [w] = v.map fun v => (v, Quad.zero))
    (ht : v = none → r.store w s1.endConfirm.breakChain = t.endConfirm.breakChain) :
    s.writeFrame f addr 1 [w] = answerWrite s1 t f addr (v.map Verdict.byte) := by
  rw [State.write_taken rfl h]
  unfold State.applyWrite
  dsimp only
  rw [hc]
  cases v with
  | some v => rfl
  | none =>
    rw [writeWords_one hr]
    exact congrArg (fun u => State.storeResult u 2 f.tag 0x00 ⟨addr, 1, 0, 0⟩) (ht rfl)

/-! ### The addresses of the writable words -/

theorem regAt_linemode (k : LineNo) : regAt (lineModeAddr k).toNat = some (.linemode k) := by revert k; decide

theorem regAt_shtab (src : Source) (second : Bool) :
    regAt (BitVec.ofNat 8 (0x60 + 2 * src.val + if second then 1 else 0)).toNat = some (.shtab src second) := by
  revert src second; decide

/-! ### The checks of each word -/

section
variable {s : State} {addr : Byte} {w : Word}

theorem writeCheck_linemode {k : LineNo} (hr : regAt addr.toNat = some (.linemode k)) :
    s.writeCheck addr 1 [w] = (if s.staging.locked then some .locked else none).map fun v => (v, Quad.zero) := by
  rw [State.writeCheck_one hr]
  cases s.staging.locked <;>
    simp [readOnlyHit, Reg.writable, Reg.lockable, State.shadowBusy, State.busyMark, Reg.scope, Reg.rangeBad, failIf, firstSome]

theorem writeCheck_safepat (hr : regAt addr.toNat = some .safepat) :
    s.writeCheck addr 1 [w] =
      (if s.staging.locked then some .locked else if s.inHold then some (.refused .inSafe) else none).map
        fun v => (v, Quad.zero) := by
  rw [State.writeCheck_one hr]
  cases s.staging.locked <;> cases s.inHold <;>
    simp [readOnlyHit, Reg.writable, Reg.lockable, State.shadowBusy, State.busyMark, Reg.scope, Reg.rangeBad, failIf, firstSome]

theorem writeCheck_arbcfg (hr : regAt addr.toNat = some .arbcfg) :
    s.writeCheck addr 1 [w] =
      (if s.staging.locked then some .locked else if s.arb.stack ≠ [] then some (.refused .stackBusy) else none).map
        fun v => (v, Quad.zero) := by
  rw [State.writeCheck_one hr]
  cases s.staging.locked <;> cases s.arb.stack <;>
    simp [readOnlyHit, Reg.writable, Reg.lockable, State.shadowBusy, State.busyMark, Reg.scope, Reg.rangeBad, failIf, firstSome]

theorem writeCheck_wdgcfg (hr : regAt addr.toNat = some .wdgcfg) :
    s.writeCheck addr 1 [w] =
      (if s.staging.locked then some .locked else if loByte w = 0 then some (.refused .range) else none).map
        fun v => (v, Quad.zero) := by
  rw [State.writeCheck_one hr]
  cases s.staging.locked <;> by_cases h : loByte w = 0#8 <;>
    simp [readOnlyHit, Reg.writable, Reg.lockable, State.shadowBusy, State.busyMark, Reg.scope, Reg.rangeBad, failIf, firstSome,
      h]

theorem writeCheck_jrnlCfg (hr : regAt addr.toNat = some .jrnlCfg) :
    s.writeCheck addr 1 [w] = (if 32 < w.toNat then some (.refused .range) else none).map fun v => (v, Quad.zero) := by
  rw [State.writeCheck_one hr]
  by_cases h : 32 < w.toNat <;>
    simp [readOnlyHit, Reg.writable, Reg.lockable, State.shadowBusy, State.busyMark, Reg.scope, Reg.rangeBad, failIf, firstSome,
      h]

theorem writeCheck_shtab {src : Source} {second : Bool} (hr : regAt addr.toNat = some (.shtab src second)) :
    s.writeCheck addr 1 [w] =
      if s.staging.locked then some (.locked, Quad.zero)
      else s.staging.armedTable.map fun m => (.shadowBusy, ⟨addr, channelByte m, 0, 0⟩) := by
  rw [State.writeCheck_one hr]
  cases s.staging.locked <;> cases ha : s.staging.armedTable <;>
    simp [readOnlyHit, Reg.writable, Reg.lockable, State.shadowBusy, State.busyMark, Reg.scope, Reg.rangeBad, failIf, firstSome,
      Staging.armed, ha]

end

/-! ### What a stored word reads back -/

theorem bit_getElem (b : Bool) {i : Nat} (hi : i < 16) : (bit 16 b)[i] = (decide (i = 0) && b) := by
  cases b <;> simp [bit]

theorem TripClass.code_ofCode (c : BitVec 2) : (TripClass.ofCode c).code = c := by revert c; decide

theorem Act.code_ofCode {c : BitVec 2} : c ≠ 3 → (Act.ofCode c).code = c := by revert c; decide

theorem Override.code_ofCode {c : BitVec 2} : c ≠ 3 → (Override.ofCode c).code = c := by revert c; decide

theorem MarkEdge.code_ofCode {c : BitVec 2} : c ≠ 3 → (MarkEdge.ofCode c).code = c := by revert c; decide

theorem Entry.setWord0_words (e : Entry) (w : Word) :
    (e.setWord0 w).word0 = w &&& 0x030F ∧ (e.setWord0 w).word1 = e.word1 := by
  refine ⟨?_, rfl⟩
  unfold Entry.setWord0 Entry.word0
  dsimp only
  rw [TripClass.code_ofCode]
  ext i hi
  interval_cases i <;> simp

theorem Entry.setWord1_words (e : Entry) (w : Word) :
    (e.setWord1 w).word1 = w &&& 0x8007 ∧ (e.setWord1 w).word0 = e.word0 := by
  refine ⟨?_, rfl⟩
  have hl : BitVec.ofNat 16 ((w.extractLsb' 0 3 : BitVec 3).toFin).val = (w.extractLsb' 0 3 : BitVec 3).setWidth 16 :=
    BitVec.ofNat_toNat 16 _
  unfold Entry.setWord1 Entry.word1
  dsimp only
  rw [hl]
  ext i hi
  interval_cases i <;> simp [bit_getElem]

theorem LineCfg.mode_eq (c : LineCfg) (w : Word) :
    ({ c with enable := w.getLsbD 0, activeLow := w.getLsbD 1, recordClear := w.getLsbD 2 } : LineCfg).mode = w &&& 7 := by
  unfold LineCfg.mode
  ext i hi
  interval_cases i <;> simp [flag, bit_getElem]

theorem ChanCfg.setWord_word0 (c : ChanCfg) {w : Word} (h : badChanWord w = false) : (c.setWord 0 w).word0 = w := by
  have hok : ∀ i ∈ [0, 2, 4, 6, 8, 10, 12], (w.extractLsb' i 2 : BitVec 2) ≠ 3 := by
    intro i hi
    exact beq_eq_false_iff_ne.1 (Bool.eq_false_iff.2 (List.any_eq_false.1 h i hi))
  have h0 := MarkEdge.code_ofCode (hok 0 (by simp))
  have h2 := Act.code_ofCode (hok 2 (by simp))
  have h4 := Act.code_ofCode (hok 4 (by simp))
  have h6 := Act.code_ofCode (hok 6 (by simp))
  have h8 := Act.code_ofCode (hok 8 (by simp))
  have h10 := Override.code_ofCode (hok 10 (by simp))
  have h12 := Override.code_ofCode (hok 12 (by simp))
  unfold ChanCfg.setWord ChanCfg.word0
  rw [if_pos rfl]
  dsimp only
  rw [h0, h2, h4, h6, h8, h10, h12]
  ext i hi
  interval_cases i <;> simp [bit_getElem]

/-- A channel block's word reads back (R40). -/
theorem ChanCfg.setWord_wordAt (c : ChanCfg) (i : Fin 3) {w : Word} (h : i = 0 → badChanWord w = false) :
    (c.setWord i w).wordAt i = w &&& (if i = 1 then 0x00FF else 0xFFFF) := by
  have hall : ∀ x : Word, x &&& 0xFFFF = x := fun x => BitVec.and_allOnes
  match i with
  | 0 => exact (c.setWord_word0 (h rfl)).trans (hall w).symm
  | 1 =>
    simp only [ChanCfg.wordAt, ChanCfg.setWord, ChanCfg.word1]
    ext i hi
    interval_cases i <;> simp [loByte]
  | 2 => exact (hall w).symm

/-! ### The store of LINEMODEk -/

section
variable {s : State} {k : LineNo} {w : Word}

/-- A record does not read the link. -/
theorem State.record_withLink (s : State) (l : Link) (b : RecBody) :
    ({ s with link := l } : State).record b = { s.record b with link := l } := by
  have ho : ∀ u : State, ({ u with link := l } : State).occur jth none = { u.occur jth none with link := l } := by
    intro u
    unfold State.occur
    dsimp only
    split <;> rfl
  have he : ∀ u : State, ({ u with link := l } : State).effLevel jth = u.effLevel jth := fun _ => rfl
  unfold State.record State.offer
  dsimp only
  rw [he { s with journal := (s.journal.offer b).journal }]
  split
  · exact ho { s with journal := (s.journal.offer b).journal }
  · rfl

theorem State.record_calm (s : State) (b : RecBody) :
    (s.record b).endConfirm.breakChain = s.endConfirm.breakChain.record b := by
  have hl : (s.record b).link = s.link := by simp
  refine Eq.trans ?_ (s.record_withLink { s.link with confirm := none, chain := false } b).symm
  rw [← hl]
  rfl

theorem State.writeLineMode_on (h : w.getLsbD 0 = true) :
    s.writeLineMode k w = s.setLine k { s.lines[k] with
      cfg := { s.lines[k].cfg with enable := w.getLsbD 0, activeLow := w.getLsbD 1, recordClear := w.getLsbD 2 }
      glitch := if s.lines[k].cfg.enable then s.lines[k].glitch else 0 } := by
  unfold State.writeLineMode
  dsimp only
  rw [if_pos h]
  split
  · rfl
  · rw [setLine_setLine]

/-- Enable off while the conditioner is idle or qualifying drops nothing (R28). -/
theorem State.writeLineMode_idle (h : w.getLsbD 0 = false) (hc : s.lines[k].cond.isActive = false) :
    s.writeLineMode k w = s.setLine k { s.lines[k] with
      cfg := { s.lines[k].cfg with enable := w.getLsbD 0, activeLow := w.getLsbD 1, recordClear := w.getLsbD 2 }
      cond := .idle } := by
  unfold State.writeLineMode
  dsimp only
  rw [if_neg (Bool.eq_false_iff.1 h)]
  cases hl : s.lines[k].cond with
  | idle => rfl
  | qualifying n limit => exact State.setLine_setLine _ _ _ _
  | asserted =>
    rw [hl] at hc
    cases hc
  | releasing n limit =>
    rw [hl] at hc
    cases hc

/-- A line's drop with its Clear record (R28, R31). -/
theorem State.setLine_dropLine {l : Line} {x : Contribution} (hl : l.contrib = some x) :
    (s.setLine k l).dropLine k true true = (s.setLine k { l with cond := .idle, contrib := none }).record
      ⟨.clear true, some (lineSrc k), x.mask, none, s.time.tstamp⟩ := by
  have hg : (s.setLine k l).lines[k] = l := State.setLine_get _ _ _
  unfold State.dropLine
  dsimp only
  rw [hg, State.setLine_setLine, hl]
  rfl

/-- Enable off drops a held contribution with a Clear record marked disabled (R28). -/
theorem State.writeLineMode_drops {x : Contribution} (h : w.getLsbD 0 = false) (hc : s.lines[k].cond.isActive = true)
    (hx : s.lines[k].contrib = some x) :
    s.writeLineMode k w = (s.setLine k { s.lines[k] with
      cfg := { s.lines[k].cfg with enable := w.getLsbD 0, activeLow := w.getLsbD 1, recordClear := w.getLsbD 2 }
      cond := .idle, contrib := none }).record ⟨.clear true, some (lineSrc k), x.mask, none, s.time.tstamp⟩ := by
  unfold State.writeLineMode
  dsimp only
  rw [if_neg (Bool.eq_false_iff.1 h)]
  cases hl : s.lines[k].cond with
  | idle =>
    rw [hl] at hc
    cases hc
  | qualifying n limit =>
    rw [hl] at hc
    cases hc
  | asserted => exact State.setLine_dropLine hx
  | releasing n limit => exact State.setLine_dropLine hx

/-- The configuration after a store of LINEMODEk, in every state of the conditioner (R18). -/
theorem State.writeLineMode_cfg (s : State) (k : LineNo) (w : Word) :
    (s.writeLineMode k w).lines[k].cfg =
      { s.lines[k].cfg with enable := w.getLsbD 0, activeLow := w.getLsbD 1, recordClear := w.getLsbD 2 } := by
  have hg : ∀ l : Line, (s.setLine k l).lines[k] = l := fun l => State.setLine_get _ _ _
  have hd : ∀ l : Line, ((s.setLine k l).dropLine k true true).lines[k].cfg = l.cfg := by
    intro l
    rw [State.dropLine_lines, State.setLine_setLine, hg, hg]
  cases he : w.getLsbD 0 with
  | true => rw [State.writeLineMode_on he, hg, he]
  | false =>
    unfold State.writeLineMode
    dsimp only
    rw [if_neg (Bool.eq_false_iff.1 he)]
    cases s.lines[k].cond with
    | idle => rw [hg, he]
    | qualifying n limit => rw [State.setLine_setLine, hg, he]
    | asserted => rw [hd, he]
    | releasing n limit => rw [hd, he]

end

end Sys2Proof.Machine

open Sys2Proof Sys2Proof.Machine

/-- Settles O36: the WRITE that is taken answers by its checks. -/
theorem writesAreAllOrNothing : Obligations.WritesAreAllOrNothing := by
  intro f start count data s s1 hd h s2 hs
  subst hs
  have e := State.write_taken hd h
  refine ⟨fun v p hc => ?_, fun hc => ?_, ?_⟩
  · refine congrArg Host.Outcome.next (e.trans ?_)
    unfold State.applyWrite
    dsimp only
    rw [hc]
  · refine congrArg Host.Outcome.next (e.trans ?_)
    unfold State.applyWrite
    dsimp only
    rw [hc]
    rfl
  · rw [Option.isSome_iff_ne_none, ne_eq, State.writeCheck_none, Classical.not_and_iff_not_or_not, Option.isSome_iff_ne_none]
    refine or_congr Iff.rfl ?_
    simp only [not_forall, not_not, exists_prop]
    exact Iff.rfl

/-- Settles O37: the checks of LINEMODEk and the branches of its store. -/
theorem lineModeWrites : Obligations.LineModeWrites := by
  intro f k w s s1 c h hcmd l cfg hl hcfg
  have hexec : exec c s = .next (s.writeFrame f (lineModeAddr k) 1 [w]) := by
    rcases hcmd with rfl | rfl | rfl <;> rfl
  rw [hexec]
  have answer : ∀ t : State, s1.staging.locked = false →
      s1.endConfirm.breakChain.writeLineMode k w = t.endConfirm.breakChain →
      (Host.Outcome.next (s.writeFrame f (lineModeAddr k) 1 [w]) : Answer) =
        .next (answerWrite s1 t f (lineModeAddr k) none) := fun t hlock ht => by
    refine congrArg Host.Outcome.next ((answerWrite_one h (regAt_linemode k)
      (writeCheck_linemode (regAt_linemode k)) fun _ => ht).trans ?_)
    exact congrArg (answerWrite s1 t f _) (congrArg (Option.map Verdict.byte) (if_neg (Bool.eq_false_iff.1 hlock)))
  subst hl hcfg
  refine ⟨fun hlock => ?_, fun hlock hw => ?_, fun hlock hw hc => ?_, fun hlock hw n limit hc => ?_,
    fun hlock hw hc x hx => ?_⟩
  · refine congrArg Host.Outcome.next ((answerWrite_one h (t := s1) (regAt_linemode k)
      (writeCheck_linemode (regAt_linemode k)) fun hv => ?_).trans ?_)
    · cases (if_pos hlock).symm.trans hv
    · exact congrArg (answerWrite s1 s1 f _) (congrArg (Option.map Verdict.byte) (if_pos hlock))
  · exact answer _ hlock (State.writeLineMode_on hw)
  · refine answer _ hlock ((State.writeLineMode_idle hw ?_).trans ?_)
    · exact congrArg Cond.isActive hc
    · rw [← hc]
      rfl
  · exact answer _ hlock (State.writeLineMode_idle hw (congrArg Cond.isActive hc))
  · refine answer _ hlock ((State.writeLineMode_drops (s := s1.endConfirm.breakChain) hw hc hx).trans ?_)
    exact (State.record_calm (s1.setLine k { s1.lines[k] with
      cfg := { s1.lines[k].cfg with enable := w.getLsbD 0, activeLow := w.getLsbD 1, recordClear := w.getLsbD 2 }
      cond := .idle, contrib := none }) _).symm

/-- Settles O38: the checks of a word of SHTAB and its store in the shadow. -/
theorem shadowTableWrites : Obligations.ShadowTableWrites := by
  refine ⟨fun _ _ _ _ => rfl, fun f src second w s s1 addr h ha => ?_⟩
  have hr : regAt addr.toNat = some (.shtab src second) := ha ▸ regAt_shtab src second
  have hc := writeCheck_shtab (s := s1.endConfirm.breakChain) (w := w) hr
  refine ⟨fun hl => ?_, fun hl m hm => ?_, fun hl hm => ?_⟩
  · exact congrArg Host.Outcome.next (answerWrite_one h (v := some .locked) hr (hc.trans (if_pos hl)) nofun)
  · refine congrArg Host.Outcome.next ((State.write_taken rfl h).trans ?_)
    have hb : s1.endConfirm.breakChain.writeCheck addr 1 [w] = some (.shadowBusy, ⟨addr, channelByte m, 0, 0⟩) :=
      hc.trans ((if_neg (Bool.eq_false_iff.1 hl)).trans (congrArg (Option.map _) hm))
    unfold State.applyWrite
    dsimp only
    rw [hb]
    rfl
  · have hn : s1.endConfirm.breakChain.writeCheck addr 1 [w] = none :=
      hc.trans ((if_neg (Bool.eq_false_iff.1 hl)).trans (congrArg (Option.map _) hm))
    refine ⟨if second then s1.staging.shTab[src].setWord1 w else s1.staging.shTab[src].setWord0 w, ?_, ?_⟩
    · cases second
      · exact Entry.setWord0_words _ w
      · exact Entry.setWord1_words _ w
    · exact congrArg Host.Outcome.next (answerWrite_one h (v := none) hr hn fun _ => rfl)

/-- Settles O39: the checks and the store of each of the four words. -/
theorem configurationWrites : Obligations.ConfigurationWrites := by
  refine ⟨fun f w s s1 h => ?_, fun f w s s1 h => ?_, fun f w s s1 h => ?_, fun f w s s1 h jt hj => ?_⟩
  · refine congrArg Host.Outcome.next ((answerWrite_one h (t := { s1 with safepat := loByte w }) (r := .safepat) rfl
      (writeCheck_safepat rfl) fun _ => rfl).trans ?_)
    refine congrArg (answerWrite s1 _ f 0xE8) ?_
    change Option.map Verdict.byte (if s1.staging.locked then _ else if s1.inHold then _ else _) = _
    split
    · rfl
    · split <;> rfl
  · refine congrArg Host.Outcome.next ((answerWrite_one h (t := { s1 with arb := { s1.arb with nestOff := w.getLsbD 0 } })
      (r := .arbcfg) rfl (writeCheck_arbcfg rfl) fun _ => rfl).trans ?_)
    refine congrArg (answerWrite s1 _ f 0x5F) ?_
    change Option.map Verdict.byte (if s1.staging.locked then _ else if s1.arb.stack ≠ [] then _ else _) = _
    split
    · rfl
    · split <;> rfl
  · refine congrArg Host.Outcome.next ((answerWrite_one h
      (t := { s1 with wdg := { s1.wdg with cw := hiByte w, ow := loByte w } }) (r := .wdgcfg) rfl (writeCheck_wdgcfg rfl)
      fun _ => rfl).trans ?_)
    refine congrArg (answerWrite s1 _ f 0x08) ?_
    change Option.map Verdict.byte (if s1.staging.locked then _ else if loByte w = 0 then _ else _) = _
    split
    · rfl
    · split <;> rfl
  · refine congrArg Host.Outcome.next ((answerWrite_one h (t := { s1 with journal := { s1.journal with jt := jt } })
      (r := .jrnlCfg) rfl (writeCheck_jrnlCfg rfl) fun hv => ?_).trans ?_)
    · have hle : w.toNat ≤ 32 := by
        by_contra hgt
        cases (if_pos (Nat.not_le.1 hgt)).symm.trans hv
      have hlt : w.toNat < 33 := by omega
      have hjt : jt = ⟨w.toNat, hlt⟩ := Fin.ext (hj hle)
      simp only [Reg.store, dif_pos hlt, hjt]
      rfl
    · refine congrArg (answerWrite s1 _ f 0xFB) ?_
      split <;> rfl

/-- Settles O60: each writable register by its store and its view. -/
theorem writtenWordsReadBack : Obligations.WrittenWordsReadBack := by
  intro r w s hw hb hj
  have hall : ∀ x : Word, x &&& 0xFFFF = x := fun x => BitVec.and_allOnes
  cases r with
  | wdgcfg => exact (wordOf_bytes w).trans (hall w).symm
  | linemode k =>
    have e : (s.writeLineMode k w).lines[k].cfg.mode = w &&& 7 := by
      rw [State.writeLineMode_cfg]
      exact LineCfg.mode_eq _ w
    exact e
  | lineflt k =>
    have e : (s.writeLineFlt k w).lines[k] = { s.lines[k] with
        cfg := { s.lines[k].cfg with af := hiByte w, rf := loByte w } } := State.setLine_get _ _ _
    simp only [Reg.read, Reg.store, e]
    exact (wordOf_bytes w).trans (hall w).symm
  | arbcfg =>
    change flag (w.getLsbD 0) 0 = w &&& 1
    ext i hi
    interval_cases i <;> simp [flag, bit_getElem]
  | shtab src second =>
    have hg : ∀ e : Entry, (s.staging.shTab.set src.val e src.isLt)[src] = e := fun e => by simp
    cases second with
    | false => exact (congrArg Entry.word0 (hg _)).trans (Entry.setWord0_words _ w).1
    | true => exact (congrArg Entry.word1 (hg _)).trans (Entry.setWord1_words _ w).1
  | shch k i =>
    have hg : ∀ c : ChanCfg, (s.staging.shCh.set k.val c k.isLt)[k] = c := fun c => by simp
    refine (congrArg (fun c => ChanCfg.wordAt c i) (hg _)).trans (ChanCfg.setWord_wordAt _ i fun h0 => ?_)
    rw [Reg.rangeBad, h0] at hb
    exact hb
  | safepat =>
    change field (loByte w) 0 = w &&& 0xFF
    ext i hi
    interval_cases i <;> simp [field, loByte]
  | jrnlCfg =>
    have hlt : w.toNat < 33 := by have := hj rfl; omega
    simp only [Reg.read, Reg.store, dif_pos hlt]
    refine Eq.trans ?_ (hall w).symm
    simp [fieldN]
  | _ => cases hw

end

section
/-! SUPPORT. The layouts of the register words: a word put together from parts shows the fields of its parts. -/

namespace Sys2Proof.Machine

/-! ### Words put together -/

section
variable {a b : Word} {fs gs : List (Nat × Nat × Nat)} {hi lo n : Nat}

theorem Shows.zero : Shows 0 [] := fun i => by simp

theorem Shows.append (ha : Shows a fs) (hb : Shows b gs) : Shows (a ||| b) (fs ++ gs) := fun i => by
  rw [BitVec.getLsbD_or, ha i, hb i, List.any_append]

theorem Shows.number (h : n < 2 ^ (hi + 1 - lo)) : Shows (fieldN n lo) [(hi, lo, n)] :=
  Shows.of_fields (by simp) (by simpa using h)

theorem Shows.value {w : Nat} (x : BitVec w) (h : w ≤ hi + 1 - lo) : Shows (field x lo) [(hi, lo, x.toNat)] := by
  rw [field_eq]
  exact Shows.number (Nat.lt_of_lt_of_le x.isLt (Nat.pow_le_pow_right (by omega) h))

theorem Shows.fitted {w : Nat} (x : BitVec w) (h : x.toNat < 2 ^ (hi + 1 - lo)) : Shows (field x lo) [(hi, lo, x.toNat)] := by
  rw [field_eq]
  exact Shows.number h

theorem Shows.bit (b : Bool) (lo : Nat) : Shows (flag b lo) [(lo, lo, b.toNat)] := by
  rw [flag_eq]
  refine Shows.number ?_
  rw [Nat.add_sub_cancel_left]
  exact Bool.toNat_lt b

theorem Shows.word (x : Word) : Shows x [(15, 0, x.toNat)] := by
  have e : x = fieldN x.toNat 0 := by simp [fieldN]
  exact (congrArg (Shows · [(15, 0, x.toNat)]) e).mpr (Shows.number x.isLt)

theorem Shows.whole {x : Word} {n : Nat} (h : x.toNat = n) : Shows x [(15, 0, n)] := h ▸ Shows.word x

/-- A field of value 0 shows nothing. -/
theorem Shows.skip (hi lo : Nat) (h : Shows a fs) : Shows a ((hi, lo, 0) :: fs) := fun i => by
  rw [h i]
  simp

theorem Shows.zeroField (hi lo : Nat) : Shows 0 [(hi, lo, 0)] := Shows.zero.skip hi lo

end

theorem word_fields (w : Word) : w = field (hiByte w) 8 ||| field (loByte w) 0 := by
  ext i hi
  interval_cases i <;> simp [hiByte, loByte, field]

theorem Shows.bytes (a b : Byte) : Shows (wordOf a b) [(15, 8, a.toNat), (7, 0, b.toNat)] := by
  rw [word_fields (wordOf a b), hiByte_wordOf, loByte_wordOf]
  exact (Shows.value a (by decide)).append (Shows.value b (by decide))

/-- One bit per element of a list, each at its place. -/
theorem foldl_flags {α : Type} (f : α → Bool) (place : α → Nat) (l : List α) (i : Fin 16) : ∀ w : Word,
    (l.foldl (fun w k => w ||| flag (f k) (place k)) w).getLsbD i.val =
      (w.getLsbD i.val || l.any fun k => decide (place k = i.val) && f k) := by
  induction l with
  | nil => simp
  | cons k rest ih =>
    intro w
    have hk := Shows.bit (f k) (place k) i
    rw [List.foldl_cons, ih, BitVec.getLsbD_or, hk, List.any_cons, Bool.or_assoc]
    congr 2
    by_cases h : place k = i.val
    · simp [h]
      cases f k <;> rfl
    · have hn : ¬ (place k ≤ i.val ∧ i.val ≤ place k) := by omega
      simp [h, hn]

theorem foldl_flags_zero {α : Type} (f : α → Bool) (place : α → Nat) (l : List α) (i : Fin 16) :
    (l.foldl (fun w k => w ||| flag (f k) (place k)) 0).getLsbD i.val = true ↔ ∃ k ∈ l, place k = i.val ∧ f k = true := by
  have h0 : (0 : Word).getLsbD i.val = false := BitVec.getLsbD_zero
  rw [foldl_flags, h0, Bool.false_or, List.any_eq_true]
  simp only [Bool.and_eq_true, decide_eq_true_iff]

/-- The bit at an element's place is that element's flag, if no other element has it. -/
theorem foldl_flags_at {α : Type} {f : α → Bool} {place : α → Nat} {l : List α} {i : Fin 16} {k : α} (hk : k ∈ l)
    (hp : place k = i.val) (inj : ∀ j ∈ l, place j = i.val → j = k) :
    (l.foldl (fun w k => w ||| flag (f k) (place k)) 0).getLsbD i.val = f k := by
  rw [Bool.eq_iff_iff, foldl_flags_zero]
  constructor
  · rintro ⟨j, hj, hpj, hf⟩
    exact inj j hj hpj ▸ hf
  · exact fun hf => ⟨k, hk, hp, hf⟩

/-- A bit that is no element's place reads 0. -/
theorem foldl_flags_none {α : Type} {f : α → Bool} {place : α → Nat} {l : List α} {i : Fin 16}
    (h : ∀ j ∈ l, place j ≠ i.val) : (l.foldl (fun w k => w ||| flag (f k) (place k)) 0).getLsbD i.val = false := by
  rw [Bool.eq_false_iff, ne_eq, foldl_flags_zero]
  rintro ⟨j, hj, hp, -⟩
  exact h j hj hp

theorem mem_allLines (k : LineNo) : k ∈ allLines := by revert k; decide

/-! ### Numbers of codes -/

theorem classNumber_eq (c : TripClass) : classNumber c = c.code.toNat := by cases c <;> rfl

theorem layerNumber_eq (l : Layer) : layerNumber l = l.number := by cases l <;> rfl

theorem layerNumber_lt (l : Layer) : layerNumber l < 16 := by cases l <;> decide

theorem causeNumber_eq (c : Cause) : 2 ^ causeNumber c = c.bits.toNat := by cases c <;> rfl

/-! ### The parts of the formats -/

theorem Cond.stat_shows (c : Cond) : Shows c.stat (condFields c) := by
  unfold Cond.stat condFields
  cases c with
  | idle => exact Shows.zero
  | qualifying n limit => exact (Shows.number (hi := 9) (n := 1) (lo := 8) (by decide)).append (Shows.value n (by decide))
  | asserted => exact (Shows.number (hi := 9) (n := 2) (lo := 8) (by decide)).append Shows.zero
  | releasing n limit => exact (Shows.number (hi := 9) (n := 3) (lo := 8) (by decide)).append (Shows.value n (by decide))

theorem contribWord_shows (c : Option Contribution) : Shows (contribWord c) (contribFields c) := by
  cases c with
  | none => exact Shows.zero
  | some x =>
    unfold contribWord contribFields
    dsimp only
    rw [classNumber_eq]
    exact (((Shows.bit true 15).append (Shows.value _ (by decide))).append
      (Shows.number (Nat.lt_trans x.level.isLt (by decide)))).append (Shows.value _ (by decide))

theorem Entry.word_shows (e : Entry) (second : Bool) :
    Shows (if second then e.word1 else e.word0) (entryFields e second) := by
  cases second with
  | false =>
    have h0 : e.mask.setWidth 16 = field e.mask 0 := by simp [field]
    simp only [Bool.false_eq_true, if_false, Entry.word0, entryFields, classNumber_eq, h0]
    exact (Shows.value e.cls.code (by decide)).append (Shows.value e.mask (by decide))
  | true =>
    have h0 : BitVec.ofNat 16 e.level.val = fieldN e.level.val 0 := by simp [fieldN]
    simp only [if_true, Entry.word1, entryFields, h0]
    exact (Shows.bit e.record 15).append (Shows.number e.level.isLt)

theorem overrideNumber_eq (o : Override) : overrideNumber o = o.code.toNat := by cases o <;> rfl

theorem actNumber_eq (a : Act) : actNumber a = a.code.toNat := by cases a <;> rfl

theorem ChanCfg.word_shows (c : ChanCfg) (i : Fin 3) : Shows (c.wordAt i) (blockFields c i) := by
  have h0 : ∀ {w : Nat} (x : BitVec w), x.setWidth 16 = field x 0 := fun x => by simp [field]
  match i with
  | 0 =>
    have he : ∀ e : MarkEdge, Shows (field e.code 0) [(1, 0, match e with | .rising => 0 | .falling => 1 | .both => 2)] :=
      fun e => by cases e <;> exact Shows.value (MarkEdge.code _) (by decide)
    simp only [blockFields, overrideNumber_eq, actNumber_eq]
    change Shows (c.word0) _
    unfold ChanCfg.word0
    rw [h0 c.edge.code]
    exact ((((((((Shows.bit c.recordReleases 15).append (Shows.bit c.clearAtMark 14)).append
      (Shows.value c.overrideB.code (by decide))).append (Shows.value c.overrideA.code (by decide))).append
      (Shows.value c.latchB.code (by decide))).append (Shows.value c.latchA.code (by decide))).append
      (Shows.value c.cycleB.code (by decide))).append (Shows.value c.cycleA.code (by decide))).append
      (he c.edge)
  | 1 =>
    change Shows (c.ec.setWidth 16) _
    rw [h0 c.ec]
    exact Shows.value c.ec (by decide)
  | 2 => exact Shows.word c.mt

/-! ### Reset kinds and records -/

theorem ResetKind.code_shows (k : ResetKind) :
    Shows (field k.code 0) [(1, 0, match k with | .por => 0 | .pin => 1 | .cmd => 2 | .prot _ => 3)] := by
  cases k with
  | prot why => exact Shows.fitted (3 : Byte) (by decide)
  | _ => exact Shows.fitted (ResetKind.code _) (by decide)

theorem ResetKind.causeCode_shows {hi lo : Nat} (h : hi = lo + 1) (k : ResetKind) :
    Shows (field k.causeCode lo) [(hi, lo, match k with | .prot .conflict => 1 | .prot .linkEscalation => 2 | _ => 0)] := by
  have h4 : 2 ^ (hi + 1 - lo) = 4 := by
    have : hi + 1 - lo = 2 := by omega
    rw [this]
    rfl
  have hs : ∀ x : Byte, x.toNat < 4 → Shows (field x lo) [(hi, lo, x.toNat)] := fun x hx => Shows.fitted x (h4 ▸ hx)
  cases k with
  | prot why => cases why <;> exact hs _ (by decide)
  | _ => exact hs _ (by decide)

theorem RecKind.detail_shows (k : RecKind) : Shows k.detail (detailFields k) := by
  cases k with
  | assert level hst =>
    have hl : Shows (fieldN level.val 0) [(3, 0, level.val)] := Shows.number (Nat.lt_trans level.isLt (by decide))
    cases hst with
    | none => exact hl.append (Shows.zeroField 9 8)
    | some t =>
      cases t with
      | cycle => exact hl.append (Shows.number (hi := 9) (n := 1) (lo := 8) (by decide))
      | latch => exact hl.append (Shows.number (hi := 9) (n := 2) (lo := 8) (by decide))
  | clear disabled => exact Shows.bit disabled 0
  | release persist => exact Shows.value persist (by decide)
  | escalate why =>
    cases why with
    | persist => exact Shows.bit false 0
    | starved => exact Shows.bit true 0
  | safeEntry cause first =>
    simp only [RecKind.detail, detailFields, causeNumber_eq]
    exact (Shows.value cause.bits (by decide)).append (Shows.bit first 15)
  | safeExit => exact Shows.zero
  | commitApplied scope =>
    cases scope with
    | table => exact Shows.number (n := 0) (by decide)
    | channel k => exact Shows.number (Nat.lt_of_lt_of_le (Nat.succ_lt_succ k.isLt) (by decide))
  | resetMark kind =>
    exact kind.code_shows.append (kind.causeCode_shows rfl)

theorem Rec.word_shows (r : Rec) (i : Fin 6) : Shows (r.word i) (recordFields r i) := by
  match i with
  | 0 => exact Shows.word r.seq
  | 1 =>
    have hkind : Shows (fieldN r.body.kind.code 12) [(15, 12, kindNumber r.body.kind)] := by
      have hlt : kindNumber r.body.kind < 16 := by cases r.body.kind <;> simp [kindNumber]
      have he : r.body.kind.code = kindNumber r.body.kind := by cases r.body.kind <;> rfl
      rw [he]
      exact Shows.number hlt
    have hsrc : Shows (fieldN (match r.body.source with | some src => src.val | none => 31) 6)
        [(10, 6, match r.body.source with | some src => src.val | none => 31)] := by
      cases r.body.source with
      | none => exact Shows.number (by decide)
      | some src => exact Shows.number (Nat.lt_trans src.isLt (by decide))
    have hcls : Shows (match r.body.cls with | some c => flag true 5 ||| field c.code 3 | none => 0)
        [(5, 5, r.body.cls.isSome.toNat), (4, 3, match r.body.cls with | some c => classNumber c | none => 0)] := by
      cases r.body.cls with
      | none => exact (Shows.zeroField 4 3).skip 5 5
      | some c =>
        dsimp only
        rw [classNumber_eq]
        exact (Shows.bit true 5).append (Shows.value c.code (by decide))
    exact ((hkind.append (Shows.bit r.body.isProtected 11)).append hsrc).append hcls
  | 2 => exact (Shows.value r.lost (by decide)).append (Shows.value r.body.channels (by decide))
  | 3 =>
    have h : (r.body.stamp.extractLsb' 16 16 : Word).toNat = r.body.stamp.toNat / 65536 := by
      simp only [BitVec.extractLsb'_toNat, Nat.shiftRight_eq_div_pow]
      omega
    exact Shows.whole h
  | 4 =>
    have h : (r.body.stamp.extractLsb' 0 16 : Word).toNat = r.body.stamp.toNat % 65536 := by
      simp only [BitVec.extractLsb'_toNat, Nat.shiftRight_zero]
    exact Shows.whole h
  | 5 => exact r.body.kind.detail_shows

end Sys2Proof.Machine

open Sys2Proof Sys2Proof.Machine

end

section
/-! SUPPORT. The layouts of the state's register words and their addresses. -/

namespace Sys2Proof.Machine

variable (s : State)

/-! ### Conditioners -/

theorem Reg.lineact_bits (k : LineNo) : (Reg.read .lineact s).getLsbD k.val = s.lines[k].cond.isActive := by
  change s.lineact.getLsbD k.val = _
  unfold State.lineact
  exact foldl_flags_at (f := fun k : LineNo => s.lines[k].cond.isActive) (place := fun k => k.val) (k := k) (i := k)
    (mem_allLines k) rfl fun _ _ h => Fin.ext h

theorem Reg.instat_shows :
    Shows (Reg.read (.instat 0) s) ((15, 15, s.time.supLow.toNat) :: condFields s.sup.cond) ∧
    Shows (Reg.read (.instat 1) s) (contribFields s.sup.contrib) ∧
    Shows (Reg.read (.instat 2) s) ((15, 15, s.time.safeInPin.toNat) :: condFields s.safeIn) :=
  ⟨(Shows.bit _ 15).append s.sup.cond.stat_shows, contribWord_shows _, (Shows.bit _ 15).append s.safeIn.stat_shows⟩

/-! ### The table, its commits and the scrubber -/

theorem Reg.commitstat_shows : Shows (Reg.read .commitstat s)
    [(15, 15, s.staging.tableValid.toNat), (14, 14, s.staging.locked.toNat),
     (6, 5, match s.staging.armedTable with | some k => k.val | none => 0), (4, 4, s.staging.armedTable.isSome.toNat),
     (3, 0, s.staging.armedCh.toNat)] := by
  have hm : Shows (match s.staging.armedTable with
      | some k => fieldN k.val 5 ||| flag true 4
      | none => 0)
      [(6, 5, match s.staging.armedTable with | some k => k.val | none => 0),
       (4, 4, s.staging.armedTable.isSome.toNat)] := by
    cases s.staging.armedTable with
    | none => exact (Shows.zeroField 4 4).skip 6 5
    | some k => exact (Shows.number k.isLt).append (Shows.bit true 4)
  exact (((Shows.bit _ 15).append (Shows.bit _ 14)).append hm).append (Shows.value _ (by decide))

theorem Reg.scrubstat_shows : Shows (Reg.read .scrubstat s)
    [(15, 15, s.staging.tableValid.toNat), (14, 14, s.scrub.tblCond.toNat), (12, 8, s.scrub.position.val),
     (5, 0, s.scrub.pacing.val)] :=
  (((Shows.bit _ 15).append (Shows.bit _ 14)).append
    (Shows.number (Nat.lt_trans s.scrub.position.isLt (by decide)))).append (Shows.number s.scrub.pacing.isLt)

/-! ### Channels, outputs and Safe-Hold -/

theorem Reg.chstat_shows (k : Channel) :
    Shows (Reg.read (.chstat k false) s)
      [(15, 14, match s.chans[k].st with | .normal => 0 | .cycle => 1 | .latched => 2 | .clearing => 3),
       (13, 12, match s.chans[k].ind with | .none => 0 | .pending => 1 | .cancelled => 2),
       (11, 11, s.chans[k].pulse.toNat), (10, 10, (s.cyclePresent k).toNat), (9, 9, (s.latchPresent k).toNat),
       (7, 0, s.chans[k].persist.toNat)] ∧
    Shows (Reg.read (.chstat k true) s) [(15, 0, min (s.chans[k].timer.toNat / 16) 65535)] := by
  have hst : ∀ t : TripState, Shows (fieldN (match t with | .normal => 0 | .cycle => 1 | .latched => 2 | .clearing => 3) 14)
      [(15, 14, match t with | .normal => 0 | .cycle => 1 | .latched => 2 | .clearing => 3)] := fun t => by
    cases t <;> exact Shows.number (by decide)
  have hind : ∀ t : ClearInd, Shows (fieldN (match t with | .none => 0 | .pending => 1 | .cancelled => 2) 12)
      [(13, 12, match t with | .none => 0 | .pending => 1 | .cancelled => 2)] := fun t => by
    cases t <;> exact Shows.number (by decide)
  exact ⟨(((((hst s.chans[k].st).append (hind s.chans[k].ind)).append (Shows.bit _ 11)).append (Shows.bit _ 10)).append
    (Shows.bit _ 9)).append (Shows.value _ (by decide)), Shows.number (Nat.lt_of_le_of_lt (Nat.min_le_right _ _) (by decide))⟩

theorem byteOfLevels_getLsbD : ∀ (f : Fin 8 → Bool) (i : Fin 8), (byteOfLevels f).getLsbD i.val = f i := by
  decide +kernel

theorem Reg.outstat_bits (i : Fin 16) : (Reg.read (.outstat 0) s).getLsbD i.val =
    if h : i.val < 8 then s.outLevel ⟨i.val, h⟩ else if i = 8 then s.outs.nSafe else false := by
  have h := (Shows.bit s.outs.nSafe 8).append (Shows.value (hi := 7) (lo := 0) (byteOfLevels s.outLevel) (by decide)) i
  refine h.trans ?_
  have hb : ∀ j : Fin 8, (byteOfLevels s.outLevel).toNat.testBit j.val = s.outLevel j := byteOfLevels_getLsbD s.outLevel
  have h0 : s.outs.nSafe.toNat.testBit 0 = s.outs.nSafe := by cases s.outs.nSafe <;> rfl
  simp only [List.cons_append, List.nil_append, List.any_cons, List.any_nil, Bool.or_false, Nat.sub_zero, Nat.zero_le,
    true_and]
  by_cases h8 : i.val < 8
  · have hn : ¬ (8 ≤ i.val ∧ i.val ≤ 8) := by omega
    have hl : i.val ≤ 7 := by omega
    simp only [hn, hl, h8, decide_false, decide_true, Bool.false_and, Bool.true_and, Bool.false_or, dif_pos]
    exact hb ⟨i.val, h8⟩
  · have hl : ¬ i.val ≤ 7 := by omega
    rw [dif_neg h8]
    by_cases he : i = 8
    · subst he
      simpa using h0
    · have hne : i.val ≠ 8 := fun x => he (Fin.ext x)
      have hn : ¬ (8 ≤ i.val ∧ i.val ≤ 8) := by omega
      simp only [hn, hl, he, decide_false, Bool.false_and, Bool.or_false, if_false]

theorem Reg.outstat_shows :
    Shows (Reg.read (.outstat 1) s)
      [(15, 12, layerNumber s.outs.layers[5]), (11, 8, layerNumber s.outs.layers[1]),
       (7, 4, layerNumber s.outs.layers[4]), (3, 0, layerNumber s.outs.layers[0])] ∧
    Shows (Reg.read (.outstat 2) s)
      [(15, 12, layerNumber s.outs.layers[7]), (11, 8, layerNumber s.outs.layers[3]),
       (7, 4, layerNumber s.outs.layers[6]), (3, 0, layerNumber s.outs.layers[2])] := by
  have four : ∀ a b c d : Layer, Shows (fieldN a.number 12 ||| fieldN b.number 8 ||| fieldN c.number 4 ||| fieldN d.number 0)
      [(15, 12, layerNumber a), (11, 8, layerNumber b), (7, 4, layerNumber c), (3, 0, layerNumber d)] := by
    intro a b c d
    simp only [← layerNumber_eq]
    exact (((Shows.number (layerNumber_lt a)).append (Shows.number (layerNumber_lt b))).append
      (Shows.number (layerNumber_lt c))).append (Shows.number (layerNumber_lt d))
  exact ⟨four _ _ _ _, four _ _ _ _⟩

theorem Reg.safestat_shows :
    Shows (Reg.read (.safestat false) s) [(15, 15, (decide (s.causes ≠ 0)).toNat), (5, 0, s.causes.toNat)] ∧
    Shows (Reg.read (.safestat true) s) [(4, 0, s.exitFailing.toNat)] := by
  have hh : s.inHold = decide (s.causes ≠ 0) := by
    rw [Bool.eq_iff_iff, State.inHold, bne_iff_ne, decide_eq_true_iff]
  rw [← hh]
  refine ⟨(Shows.bit s.inHold 15).append (Shows.value s.causes (by decide)), Shows.fitted s.exitFailing ?_⟩
  rw [State.exitFailing_eq]
  obtain ⟨-, -, -, -, -, hlt⟩ := exitMask_bits (!s.staging.tableValid) (decide (s.clk.seen ≠ .good)) s.safeIn.isActive
    (s.held.any fun x => x.cls == .safe) (s.unserved tblSrc || s.unserved clkSrc)
  exact hlt

/-! ### The journal -/

theorem Reg.jrnlHead_shows (i : Fin 6) : (s.journal.queue = [] → Reg.read (.jrnlHead i) s = 0) ∧
    ∀ r rest, s.journal.queue = r :: rest → Shows (Reg.read (.jrnlHead i) s) (recordFields r i) := by
  constructor
  · intro h
    simp only [Reg.read, Journal.head, h]
  · intro r rest h
    simp only [Reg.read, Journal.head, h]
    exact r.word_shows i

/-! ### The arbiter -/

theorem Reg.pending_low (i : Fin 16) :
    (Reg.read (.pending false) s).getLsbD i.val = s.isPending ⟨i.val, Nat.lt_trans i.isLt (by decide)⟩ :=
  foldl_flags_at (f := fun k : LineNo => s.isPending (lineSrc k)) (k := i) (mem_allLines i) rfl fun _ _ h => Fin.ext h

theorem mem_highSources {k : Source} : 16 ≤ k.val → k ∈ ([16, 17, 18, 19, 20, 21] : List Source) := by revert k; decide

theorem le_of_mem_highSources {k : Source} : k ∈ ([16, 17, 18, 19, 20, 21] : List Source) → 16 ≤ k.val := by
  revert k; decide

theorem Reg.pending_high (i : Fin 16) : (Reg.read (.pending true) s).getLsbD i.val =
    if h : i.val < 6 then s.isPending ⟨16 + i.val, by omega⟩
    else if 8 ≤ i.val ∧ i.val ≤ 12 then (match s.winner with | some w => w.val | none => 31).testBit (i.val - 8)
    else if i = 15 then s.winner.isSome else false := by
  have high : ∀ k : Source, 16 ≤ k.val → k.val - 16 = i.val →
      (([16, 17, 18, 19, 20, 21] : List Source).foldl (fun w k => w ||| flag (s.isPending k) (k.val - 16)) 0).getLsbD i.val =
        s.isPending k := fun k hk hp =>
    foldl_flags_at (f := fun k : Source => s.isPending k) (place := fun k => k.val - 16) (mem_highSources hk) hp
      fun j hj hpj => Fin.ext (by have := le_of_mem_highSources hj; omega)
  have rest : ¬ i.val < 6 →
      (([16, 17, 18, 19, 20, 21] : List Source).foldl (fun w k => w ||| flag (s.isPending k) (k.val - 16)) 0).getLsbD i.val =
        false := fun h =>
    foldl_flags_none (f := fun k : Source => s.isPending k) (place := fun k => k.val - 16) fun j hj hp => by omega
  have hw : Shows (match s.winner with | some k => fieldN k.val 8 ||| flag true 15 | none => fieldN 31 8)
      [(12, 8, match s.winner with | some w => w.val | none => 31), (15, 15, s.winner.isSome.toNat)] := by
    cases s.winner with
    | none => exact (Shows.number (hi := 12) (n := 31) (lo := 8) (by decide)).append (Shows.zeroField 15 15)
    | some k => exact (Shows.number (Nat.lt_trans k.isLt (by decide))).append (Shows.bit true 15)
  refine (BitVec.getLsbD_or ..).trans ((congrArg (_ || ·) (hw i)).trans ?_)
  simp only [List.any_cons, List.any_nil, Bool.or_false]
  have h0 : s.winner.isSome.toNat.testBit 0 = s.winner.isSome := by cases s.winner.isSome <;> rfl
  by_cases h6 : i.val < 6
  · have hl : ¬ (8 ≤ i.val ∧ i.val ≤ 12) := by omega
    have hh : ¬ (15 ≤ i.val ∧ i.val ≤ 15) := by omega
    rw [dif_pos h6, high ⟨16 + i.val, by omega⟩ (Nat.le_add_right 16 _) (Nat.add_sub_cancel_left 16 _)]
    simp only [hl, hh, decide_false, Bool.false_and, Bool.or_false]
  · rw [dif_neg h6, rest h6, Bool.false_or]
    by_cases hl : 8 ≤ i.val ∧ i.val ≤ 12
    · have hh : ¬ (15 ≤ i.val ∧ i.val ≤ 15) := by omega
      simp only [hl, hh, and_self, decide_true, decide_false, Bool.true_and, Bool.false_and, Bool.or_false, if_true]
    · rw [if_neg hl]
      by_cases he : i = 15
      · subst he
        simpa using h0
      · have hne : i.val ≠ 15 := fun x => he (Fin.ext x)
        have hh : ¬ (15 ≤ i.val ∧ i.val ≤ 15) := by omega
        simp only [hl, hh, he, decide_false, Bool.false_and, Bool.or_false, if_false]

theorem Reg.slevel_shows : Shows (Reg.read (.slevel false) s)
    [(3, 0, s.arb.sl.val), (14, 14, s.arb.nestOff.toNat), (15, 15, (decide (s.arb.hd ≠ 0)).toNat)] := by
  have hh : (s.arb.hd != 0) = decide (s.arb.hd ≠ 0) := by
    rw [Bool.eq_iff_iff, bne_iff_ne, decide_eq_true_iff]
  rw [← hh]
  exact ((Shows.number (Nat.lt_trans s.arb.sl.isLt (by decide))).append (Shows.bit _ 14)).append (Shows.bit _ 15)

theorem Reg.stackview_empty (h : s.arb.stack = []) :
    Shows (Reg.read (.stackview 0) s) [(12, 8, 31)] ∧ Reg.read (.stackview 1) s = 0 ∧ Reg.read (.stackview 2) s = 0 := by
  simp only [Reg.read, Arbiter.stackview, h]
  exact ⟨Shows.number (by decide), rfl, rfl⟩

theorem Reg.stackview_shows {e : StackEntry} {rest : List StackEntry} (h : s.arb.stack = e :: rest)
    (hl : s.arb.stack.length ≤ 12) :
    Shows (Reg.read (.stackview 0) s)
      [(3, 0, s.arb.stack.length), (12, 8, e.source.val), (15, 15, e.firstSeq.isSome.toNat)] ∧
    Shows (Reg.read (.stackview 1) s) [(3, 0, e.savedSL.val)] ∧
    Reg.read (.stackview 2) s = (match e.firstSeq with | some q => q | none => 0) := by
  simp only [Reg.read, Arbiter.stackview]
  rw [h] at hl ⊢
  refine ⟨((Shows.number (Nat.lt_of_le_of_lt hl (by decide))).append
    (Shows.number (Nat.lt_trans e.source.isLt (by decide)))).append (Shows.bit _ 15),
    Shows.number (Nat.lt_trans e.savedSL.isLt (by decide)), ?_⟩
  have hf : ∀ o : Option Word, o.getD 0 = (match o with | some q => q | none => 0) := fun o => by cases o <;> rfl
  exact hf e.firstSeq

/-! ### Supervision and the reset cause -/

theorem Reg.critstat_shows : Shows (Reg.read .critstat s)
    [(0, 0, s.sup.cond.isActive.toNat), (1, 1, s.wdg.lnk.isSome.toNat), (2, 2, s.scrub.tblCond.toNat),
     (3, 3, s.clk.cond.toNat)] :=
  (((Shows.bit _ 0).append (Shows.bit _ 1)).append (Shows.bit _ 2)).append (Shows.bit _ 3)

theorem Reg.wdgstat_state : Shows (Reg.read (.wdgstat 0) s)
    [(15, 14, match s.wdg.st with | .off => 0 | .closed => 1 | .opened => 2 | .lapsed => 3), (7, 0, s.wdg.token.toNat)] := by
  have hst : ∀ t : WdgState, Shows (field t.code 14)
      [(15, 14, match t with | .off => 0 | .closed => 1 | .opened => 2 | .lapsed => 3)] := fun t => by
    cases t <;> exact Shows.fitted (WdgState.code _) (by decide)
  exact (hst s.wdg.st).append (Shows.value _ (by decide))

theorem Reg.wdgstat_timer :
    Reg.read (.wdgstat 1) s = (if s.wdg.st = .off then 0 else BitVec.ofNat 16 (s.wdg.timer / 16)) := by
  simp only [Reg.read, Watchdog.stat]
  cases s.wdg.st <;> simp [fieldN]

theorem Reg.wdgstat_lnk : Shows (Reg.read (.wdgstat 2) s)
    ((15, 8, if s.wdg.st = .off then 0 else s.wdg.length.toNat) ::
      match s.wdg.lnk with
      | some x => [(7, 7, 1), (5, 4, classNumber x.cls), (3, 0, x.mask.toNat)]
      | none => []) := by
  have hlen : Shows (if (s.wdg.st != .off) = true then field s.wdg.length 8 else 0)
      [(15, 8, if s.wdg.st = .off then 0 else s.wdg.length.toNat)] := by
    by_cases h : s.wdg.st = .off
    · rw [h]
      exact Shows.zeroField 15 8
    · rw [if_pos (bne_iff_ne.2 h), if_neg h]
      exact Shows.value _ (by decide)
  have hlnk : Shows (match s.wdg.lnk with
      | some x => flag true 7 ||| field x.cls.code 4 ||| field x.mask 0
      | none => 0)
      (match s.wdg.lnk with
      | some x => [(7, 7, 1), (5, 4, classNumber x.cls), (3, 0, x.mask.toNat)]
      | none => []) := by
    cases s.wdg.lnk with
    | none => exact Shows.zero
    | some x =>
      dsimp only
      rw [classNumber_eq]
      exact ((Shows.bit true 7).append (Shows.value x.cls.code (by decide))).append (Shows.value x.mask (by decide))
  exact hlen.append hlnk

theorem Reg.rstcause_shows : Shows (Reg.read .rstcause s)
    [(1, 0, match s.rstcause.last with | .por => 0 | .pin => 1 | .cmd => 2 | .prot _ => 3),
     (3, 2, match s.rstcause.last with | .prot .conflict => 1 | .prot .linkEscalation => 2 | _ => 0),
     (11, 8, s.rstcause.sticky.toNat)] :=
  (s.rstcause.last.code_shows.append (s.rstcause.last.causeCode_shows rfl)).append (Shows.value _ (by decide))

/-! ### The map -/

theorem Reg.writable_iff (r : Reg) : r.writable = true ↔
    r = .wdgcfg ∨ (∃ k, r = .linemode k) ∨ (∃ k, r = .lineflt k) ∨ r = .arbcfg ∨ (∃ src b, r = .shtab src b) ∨
    (∃ k i, r = .shch k i) ∨ r = .safepat ∨ r = .jrnlCfg := by
  cases r <;> simp [Reg.writable]

theorem regAt_regions :
    (∀ i : Fin 3, regAt (0x09 + i.val) = some (.wdgstat i) ∧ regAt (0x52 + i.val) = some (.instat i) ∧
      regAt (0x5C + i.val) = some (.stackview i) ∧ regAt (0xE9 + i.val) = some (.outstat i)) ∧
    (∀ b : Bool, regAt (0x58 + b.toNat) = some (.pending b) ∧ regAt (0x5A + b.toNat) = some (.slevel b) ∧
      regAt (0xEC + b.toNat) = some (.safestat b)) ∧
    (∀ k : LineNo, regAt (0x30 + k.val) = some (.linestat k) ∧ regAt (0x40 + k.val) = some (.linecap k)) ∧
    (∀ j : Fin 8, regAt (0x98 + j.val) = some (.lineglt j)) := by decide

theorem regAt_pairs :
    (∀ (src : Source) (b : Bool), regAt (0x60 + 2 * src.val + b.toNat) = some (.shtab src b) ∧
      regAt (0xA0 + 2 * src.val + b.toNat) = some (.acttab src b)) ∧
    (∀ (k : Channel) (i : Fin 3), regAt (0x8C + 3 * k.val + i.val) = some (.shch k i) ∧
      regAt (0xCC + 3 * k.val + i.val) = some (.actch k i)) ∧
    (∀ (k : Channel) (b : Bool), regAt (0xE0 + 2 * k.val + b.toNat) = some (.chstat k b)) ∧
    (∀ i : Fin 6, regAt (0xF0 + i.val) = some (.jrnlHead i)) := by decide

end Sys2Proof.Machine

open Sys2Proof Sys2Proof.Machine

/-- Settles O59: the map, and each word by the lemma on its layout. -/
theorem statusWordLayouts : Obligations.StatusWordLayouts := by
  obtain ⟨a1, a2, a3, a4⟩ := regAt_regions
  obtain ⟨b1, b2, b3, b4⟩ := regAt_pairs
  refine ⟨Reg.writable_iff, by decide, a1, a2, a3, a4, b1, b2, b3, b4, fun s => ?_⟩
  obtain ⟨c1, c2, c3⟩ := Reg.instat_shows s
  obtain ⟨d1, d2⟩ := Reg.outstat_shows s
  obtain ⟨e1, e2⟩ := Reg.safestat_shows s
  exact ⟨fun k => ⟨Cond.stat_shows _, contribWord_shows _, Reg.lineact_bits s k⟩, fun j => Shows.bytes _ _, rfl, c1, c2, c3,
    fun src b => ⟨Entry.word_shows _ b, Entry.word_shows _ b⟩, fun k i => ⟨ChanCfg.word_shows _ i, ChanCfg.word_shows _ i⟩,
    Reg.commitstat_shows s, rfl, Reg.scrubstat_shows s, Reg.chstat_shows s, Reg.outstat_bits s, d1, d2, e1, e2,
    Reg.jrnlHead_shows s, by simp [Reg.read, fieldN], rfl, (Shows.bit _ 15).append (Shows.value _ (by decide)), rfl, rfl,
    Reg.pending_low s, Reg.pending_high s, Reg.slevel_shows s, rfl, Reg.stackview_empty s,
    fun _ _ h hl => Reg.stackview_shows s h hl, Reg.critstat_shows s, Reg.wdgstat_state s, Reg.wdgstat_timer s,
    Reg.wdgstat_lnk s, Reg.rstcause_shows s, rfl, rfl, rfl⟩

end

section
/-! SUPPORT. Transactions: the frame checks, what is judged, what waits, and replays. -/

namespace Sys2Proof.Machine

/-! ### The frame checks -/

theorem frameCheck_empty : frameCheck [] = none := rfl

theorem expectedLength_le (bytes : List Byte) : expectedLength bytes ≤ 36 := by
  unfold expectedLength
  dsimp only
  (repeat' split) <;> omega

theorem frameCheck_short {bytes : List Byte} (h0 : 0 < bytes.length) (h : bytes.length < expectedLength bytes) :
    frameCheck bytes = some (true, ⟨BitVec.ofNat 8 bytes.length, BitVec.ofNat 8 (expectedLength bytes), 0, 0⟩) := by
  have hle := expectedLength_le bytes
  have hmin : min bytes.length 255 = bytes.length := by omega
  unfold frameCheck
  dsimp only
  rw [if_neg (by omega), if_pos h, hmin]

/-- The CRC byte at its expected place decides (R157). -/
theorem frameCheck_crc {body fill : List Byte} {crc : Byte} (h : expectedLength (body ++ crc :: fill) = body.length + 1) :
    frameCheck (body ++ crc :: fill) =
      if crc = crc8 body then none else some (false, ⟨crc, crc8 body, BitVec.ofNat 8 (body.length + 1), 0⟩) := by
  have hl : (body ++ crc :: fill).length = body.length + 1 + fill.length := by simp +arith
  have hg : (body ++ crc :: fill).getD body.length 0 = crc := by simp [List.getD_eq_getElem?_getD]
  have ht : (body ++ crc :: fill).take body.length = body := by simp
  unfold frameCheck
  dsimp only
  rw [h, hl, Nat.add_sub_cancel, hg, ht, if_neg (by omega), if_neg (by omega)]

theorem judge_bad {bytes : List Byte} {short : Bool} {p : Quad} (h : frameCheck bytes = some (short, p)) (snapped : Bool) :
    judge bytes snapped = some (.bad (headerKind bytes) (headerTag bytes) short p) := by
  unfold judge
  rw [h]

/-! ### What is judged -/

theorem inShadow_length {start : Byte} {n : Nat} (h : inShadow start n = true) : n = writeDataLength (BitVec.ofNat 8 n) := by
  obtain ⟨h1, h16, -, -⟩ := of_decide_eq_true h
  have e : (BitVec.ofNat 8 n).toNat = n := by
    rw [BitVec.toNat_ofNat]
    omega
  unfold writeDataLength
  rw [e, if_pos ⟨h1, h16⟩]

/-- The bytes of a command that fits are judged as the transaction that it is (R156, R163). -/
theorem judge_transactionOf {c : Instr} {f : Frame} {bytes : List Byte} (h : frameOf c = some (f, bytes)) (hw : c.wf = true)
    (snapped : Bool) : judge (bytes ++ f.fill) snapped = transactionOf snapped c := by
  cases c <;> cases h
  case null => exact judge_null _ _ _
  case read => exact judge_read _ _ _ _ _
  case write => exact judge_write _ _ _ _ _ _ (beq_iff_eq.1 ((Bool.and_eq_true _ _).mp hw).2)
  case shadowWrite =>
    exact judge_write _ _ _ _ _ _ (inShadow_length ((Bool.and_eq_true _ _).mp hw).2)
  case lineEnable | lineDisable | polarityChange | safepatWrite | arbcfgWrite | wdgcfgWrite | jrnlCfgWrite =>
    exact judge_write _ _ _ _ _ _ rfl
  all_goals exact judge_action _ _ _ _ _

/-! ### Between the fall and the rise of nCS -/

section
variable {s : State}

theorem State.mid_tick (h : s.tick = none) (m : MidEvent) : (s.mid m).tick = none := by
  cases m with
  | tick inp =>
    unfold State.mid State.wholeTick
    dsimp only
    split
    · exact h
    · exact State.settle_tick _
  | clock e => exact h

theorem mids_tick (mids : List Mid) : ∀ {s : State}, s.tick = none → (mids.foldl (fun s m => s.mid m.event) s).tick = none := by
  induction mids with
  | nil => exact fun h => h
  | cons m rest ih => exact fun h => ih (State.mid_tick h m.event)

theorem State.clockByte_tick (s : State) (b : Byte) : (s.clockByte b).tick = s.tick := by
  unfold State.clockByte
  split
  · rfl
  · dsimp only
    split <;> rfl

theorem carry_tick (bytes : List Byte) : ∀ (n : Nat) (mids : List Mid) {s : State}, s.tick = none →
    (carry n bytes mids s).tick = none := by
  induction bytes with
  | nil => exact fun _ mids _ h => mids_tick mids h
  | cons b rest ih => exact fun n mids s h => ih _ _ ((State.clockByte_tick _ b).trans (mids_tick _ h))

theorem State.lift_tick (s : State) : s.lift.tick = s.tick := by
  unfold State.lift
  split <;> rfl

theorem State.await_tick (s : State) (j : Option Judged) : (s.await j).tick = s.tick := by
  cases j <;> rfl

theorem State.rise_tick (s : State) (bytes : List Byte) : (s.rise bytes).tick = s.tick := by
  unfold State.rise
  split
  · rfl
  · exact (State.await_tick _ _).trans s.lift_tick

theorem State.take_tick (s : State) (bytes : List Byte) : (s.take bytes).tick = s.tick := by
  unfold State.take
  split
  · rfl
  · split
    · rfl
    · exact s.rise_tick _

/-- A transaction leaves no tick in progress: it has ended before nCS fell, and those while nCS is low are whole (R158). -/
theorem State.transfer_tick (s : State) (bytes : List Byte) (during : List Mid) : (s.transfer bytes during).tick = none :=
  carry_tick _ _ _ ((State.take_tick _ _).trans s.settle_tick)

theorem State.rise_waits {bytes : List Byte} {q : Flight} (h : s.link.flight = some q) :
    s.rise bytes = { s with link := { s.link with
      flight := none, sdo := q.sent
      waiting := s.link.waiting ++ if q.dead then [] else (judge bytes q.snapped).toList
      owed := s.link.owed || q.owes } } := by
  have hl : s.lift = { s with link := { s.link with flight := none, sdo := q.sent, owed := s.link.owed || q.owes } } := by
    unfold State.lift
    rw [h]
  unfold State.rise Flight.judged
  rw [h]
  dsimp only
  rw [hl]
  cases q.dead with
  | true => simp [State.await]
  | false => cases judge bytes q.snapped <;> simp [State.await]

end

/-! ### Replays -/

theorem State.applyAction_replay {s : State} {tag : BitVec 6} {code : Byte} {args : Quad} {r : Replay}
    (h : s.link.replayOf tag code args = some r) :
    s.applyAction tag code args = .goes (s.endConfirm.storeResult 3 tag (replayedByte r.outcome) r.payload) := by
  unfold State.applyAction
  rw [h]

end Sys2Proof.Machine

open Sys2Proof Sys2Proof.Machine

/-- Settles O31: the bytes of each command, what they are judged as, and the rise of nCS. -/
theorem judgedTransactionsWait : Obligations.JudgedTransactionsWait := by
  refine ⟨fun c f bytes s h => exec_frameOf h s, fun c f bytes snapped h hw => judge_transactionOf h hw snapped,
    fun bytes during s u q hr hu hq => ?_⟩
  subst hu
  have frame : ∀ next : Option Samples, s.frame bytes ⟨during, next⟩ =
      ((s.transfer bytes during).rise bytes).proceed next := fun next => if_neg (by simp [hr])
  refine ⟨_, congrArg Host.Outcome.next (frame none), ?_, ?_, fun inp => congrArg Host.Outcome.next (frame (some inp))⟩
  · exact (State.rise_tick _ _).trans (s.transfer_tick bytes during)
  · exact State.rise_waits hq

/-- Settles O32: a replay's branch of phase 1, and the replay memory after an answer. -/
theorem replaysAreNotExecuted : Obligations.ReplaysAreNotExecuted := by
  refine ⟨fun c f code args s s1 r hf h hr => ?_, fun s f code args v p ht => ?_, fun l code args => ?_⟩
  · obtain ⟨q, h⟩ := h
    refine (exec_frameOf hf s).trans (congrArg Host.Outcome.next ((State.send_lands h).trans ?_))
    rw [judge_action]
    exact congrArg Progress.st (State.applyAction_replay hr)
  · exact if_pos ⟨rfl, ht, rfl, rfl, rfl⟩
  · unfold Link.replayOf
    split
    · exact if_neg fun h => h.2.1 rfl
    · rfl

/-- Settles O34: the frame checks by the frame's length, and the result of a frame that fails one. -/
theorem frameErrorsAreJudgedAndCounted : Obligations.FrameErrorsAreJudgedAndCounted := by
  refine ⟨fun bytes h0 h => frameCheck_short h0 h, fun body fill crc h => frameCheck_crc h, frameCheck_empty,
    fun f bytes short p q s s1 hf hc h => ?_⟩
  have e : s.frame (bytes ++ f.fill) f.course = _ := State.send_lands h
  rw [hf, List.append_nil, judge_bad hc] at e
  refine congrArg Host.Outcome.next (e.trans ?_)
  cases short <;> rfl

end

section
/-! SUPPORT. NULL and READ: the stream of a transaction with nothing in between, and the snapshot of a READ at its boundary. -/

namespace Sys2Proof.Machine

/-! ### The status byte -/

/-- The status byte from its eight conditions (R159). -/
def statusOf (irq hold locked records backup armed holdoff new : Bool) : Byte :=
  (if irq then 0x80 else 0) ||| (if hold then 0x40 else 0) ||| (if locked then 0x20 else 0) |||
  (if records then 0x10 else 0) ||| (if backup then 0x08 else 0) ||| (if armed then 0x04 else 0) |||
  (if holdoff then 0x02 else 0) ||| (if new then 0x01 else 0)

theorem statusOf_bits : ∀ (a b c d e f g h : Bool) (i : Fin 8), (statusOf a b c d e f g h).getLsbD i.val =
    if i = 7 then a else if i = 6 then b else if i = 5 then c else if i = 4 then d else if i = 3 then e
    else if i = 2 then f else if i = 1 then g else h := by
  decide +kernel

theorem State.statusByte_eq (s : State) :
    s.statusByte = statusOf s.outs.nIrq (decide (s.causes ≠ 0)) s.staging.locked (decide (s.journal.queue ≠ []))
      (decide (s.clk.src = .backup)) s.link.confirm.isSome (decide (s.arb.hd ≠ 0)) s.link.resultNew := by
  have hh : s.inHold = decide (s.causes ≠ 0) := by
    rw [Bool.eq_iff_iff, State.inHold, bne_iff_ne, decide_eq_true_iff]
  have hq : (if s.journal.queue.isEmpty then 0 else 0x10 : Byte) = if decide (s.journal.queue ≠ []) then 0x10 else 0 := by
    cases s.journal.queue <;> simp
  have hb : (if s.clk.src = .backup then 0x08 else 0 : Byte) = if decide (s.clk.src = .backup) then 0x08 else 0 := by
    simp only [decide_eq_true_iff]
  have h0 : (if s.arb.hd = 0 then 0 else 0x02 : Byte) = if decide (s.arb.hd ≠ 0) then 0x02 else 0 := by
    by_cases h : s.arb.hd = 0 <;> simp [h]
  unfold State.statusByte statusOf
  rw [hh, hq, hb, h0]

/-! ### A transaction with nothing in between -/

section
variable {s : State}

theorem State.transfer_settle (s : State) (bytes : List Byte) (during : List Mid) :
    s.settle.transfer bytes during = s.transfer bytes during := by
  unfold State.transfer
  rw [s.settle_settle]

/-- The transaction of these bytes with nothing in between, as it stands after its last byte (R158). -/
def State.still (s : State) (bytes : List Byte) : Flight :=
  ⟨bytes, s.statusByte, s.link.result, true, streamFrom (headBytes s.statusByte s.link.result) 0 bytes.length, none, false⟩

/-- A transaction with nothing in between, from a moment when nCS is high (R158, R159). -/
theorem State.transfer_still {bytes : List Byte} (hb : bytes ≠ []) (hf : s.settle.link.flight = none) :
    s.transfer bytes [] = { s.settle with link := { s.settle.link with
      flight := some (s.settle.still bytes)
      resultNew := s.settle.link.resultNew && !decide (7 < bytes.length) } } := by
  rw [← s.transfer_settle]
  cases bytes with
  | nil => exact absurd rfl hb
  | cons b rest => exact transfer_quiet s.settle b rest s.settle_tick hf

/-- Such a transaction at the rise of nCS (R3). -/
theorem State.rise_still {bytes : List Byte} (hb : bytes ≠ []) (hf : s.settle.link.flight = none) :
    (s.transfer bytes []).rise bytes = { s.settle with link := { s.settle.link with
      flight := none, sdo := (s.settle.still bytes).sent
      waiting := s.settle.link.waiting ++ (judge bytes (s.settle.still bytes).snapped).toList
      owed := s.settle.link.owed || (s.settle.still bytes).owes
      resultNew := s.settle.link.resultNew && !decide (7 < bytes.length) } } := by
  rw [State.transfer_still hb hf, State.rise_waits (q := s.settle.still bytes) rfl]
  rfl

theorem State.frame_eq (bytes : List Byte) (c : Course) (h : s.inReset = false) :
    s.frame bytes c = ((s.transfer bytes c.during).rise bytes).proceed c.next := if_neg (by simp [h])

end

end Sys2Proof.Machine

open Sys2Proof Sys2Proof.Machine

/-- Settles O33: a NULL is judged to be nothing, so its stream is all that it leaves. -/
theorem nullFetchesTheResultAgain : Obligations.NullFetchesTheResultAgain := by
  refine ⟨fun f s u n head hr hu hf hd hn hhead => ?_, fun s i => ?_⟩
  · subst hu hn hhead
    refine congrArg Host.Outcome.next ((State.frame_eq _ _ hr).trans (congrArg (State.proceed · f.next) ?_))
    have hb : nullBytes f.tag ++ f.fill ≠ [] := by simp [nullBytes, sealFrame]
    have hk : headerKind (nullBytes f.tag ++ f.fill) ≠ 1 := by simp [nullBytes, sealFrame, headerKind]
    have hl : (nullBytes f.tag ++ f.fill).length = 2 + f.fill.length := by simp [nullBytes, sealFrame]; omega
    change (s.transfer (nullBytes f.tag ++ f.fill) f.during).rise (nullBytes f.tag ++ f.fill) = _
    rw [hd, State.rise_still hb hf, judge_null, Flight.owes_kind (q := s.settle.still _) hk, hl]
    unfold State.still
    simp only [Option.toList_none, List.append_nil, Bool.or_false, hl, ← hf]
    simp only [streamFrom, Nat.zero_add]
    rfl
  · rw [State.statusByte_eq]
    exact statusOf_bits _ _ _ _ _ _ _ _ i

end

section
/-! SUPPORT. READ: its snapshot at a boundary with nothing in between, and the stream that carries it on. -/

namespace Sys2Proof.Machine

/-! ### CLKSTAT -/

/-- The number of a monitor state (Table 1-2). -/
def MonState.number : MonState → Nat
  | .good => 0
  | .lost => 1
  | .recovering => 2

theorem ClockMon.clkstat_shows {c : ClockMon} (h : c.recovery ≤ 4096) :
    Shows c.clkstat [(15, 14, c.mon.number), (13, 13, (c.src == .backup).toNat), (12, 0, c.recovery)] := by
  have hm : ∀ m : MonState, Shows (fieldN (match m with | .good => 0 | .lost => 1 | .recovering => 2) 14) [(15, 14, m.number)] :=
    fun m => by cases m <;> exact Shows.number (by decide)
  unfold ClockMon.clkstat
  exact ((hm c.mon).append (Shows.bit _ 13)).append (Shows.number (Nat.lt_of_le_of_lt h (by decide)))

/-- CLKSTAT's fields as parts of the word (Table 1-2). -/
theorem ClockMon.clkstat_parts {c : ClockMon} (h : c.recovery ≤ 4096) :
    c.clkstat.extractLsb' 14 2 = BitVec.ofNat 2 c.mon.number ∧ c.clkstat.getLsbD 13 = (c.src == .backup) ∧
    (c.clkstat.extractLsb' 0 13).toNat = c.recovery := by
  have hs := ClockMon.clkstat_shows h
  refine ⟨?_, ?_, ?_⟩
  · refine BitVec.eq_of_getLsbD_eq fun i hi => ?_
    have hb : c.clkstat.getLsbD (14 + i) = _ := hs ⟨14 + i, by omega⟩
    have h1 : 14 + i ≤ 15 := by omega
    have h2 : ¬ 14 + i ≤ 13 := by omega
    have h3 : ¬ 14 + i ≤ 12 := by omega
    rw [BitVec.getLsbD_extractLsb', BitVec.getLsbD_ofNat, hb]
    simp [hi, h1, h2, h3]
  · have hb := hs 13
    have ht : (c.src == .backup).toNat.testBit 0 = (c.src == .backup) := by cases c.src == .backup <;> rfl
    simpa [ht] using hb
  · have he : c.clkstat.extractLsb' 0 13 = BitVec.ofNat 13 c.recovery := by
      refine BitVec.eq_of_getLsbD_eq fun i hi => ?_
      have hb : c.clkstat.getLsbD i = _ := hs ⟨i, by omega⟩
      have h1 : ¬ 14 ≤ i := by omega
      have h2 : ¬ 13 ≤ i := by omega
      have h3 : i ≤ 12 := by omega
      rw [BitVec.getLsbD_extractLsb', BitVec.getLsbD_ofNat, Nat.zero_add, hb]
      simp [hi, h1, h2, h3]
    rw [he, BitVec.toNat_ofNat]
    exact Nat.mod_eq_of_lt (by omega)

/-! ### Registers of a range -/

/-- A register shows nothing of the host link. -/
theorem Reg.read_withLink (r : Reg) (s : State) (l : Link) : r.read { s with link := l } = r.read s := by cases r <;> rfl

/-- TSTAMP_LO stands at address 0 alone (Table 11-2). -/
theorem regAt_tstampLo : ∀ a < 271, regAt a = some .tstampLo → a = 0 := by decide +kernel

/-- A range that passes its checks includes TSTAMP_LO exactly if it starts at 0. -/
theorem tstampLo_mem {start count : Byte} (h : rangeCheck start count = none) :
    Reg.tstampLo ∈ regsOf start count ↔ start = 0 := by
  have hc : 0 < count.toNat ∧ count.toNat ≤ 16 := by
    unfold rangeCheck at h
    split at h
    · cases h
    · omega
  have hmem : Reg.tstampLo ∈ regsOf start count ↔ ∃ i < count.toNat, regAt (start.toNat + i) = some .tstampLo := by
    simp [regsOf, addresses, List.mem_filterMap]
  rw [hmem]
  constructor
  · rintro ⟨i, hi, he⟩
    have hs := start.isLt
    have h0 := regAt_tstampLo (start.toNat + i) (by omega) he
    exact BitVec.eq_of_toNat_eq (by rw [show start.toNat = 0 by omega]; rfl)
  · rintro rfl
    exact ⟨0, hc.1, rfl⟩

/-! ### The READ in flight -/

section
variable {q : Flight} {start count : Byte} {tag : BitVec 6} {fill : List Byte}

/-- A READ whose range passes is due while 4 to 7 of its bytes have been clocked (R4). -/
theorem Flight.due_iff (hk : headerKind q.host = 1) (hd : q.dead = false) (hw : q.words = none)
    (hc : rangeCheck (q.host.getD 1 0) (q.host.getD 2 0) = none) : q.due = true ↔ 4 ≤ q.host.length ∧ q.host.length < 8 := by
  unfold Flight.due
  rw [hk, hd, hw, hc]
  simp

end

theorem readBytes_length (tag : BitVec 6) (start count : Byte) : (readBytes tag start count).length = 4 := rfl

theorem readBytes_start (tag : BitVec 6) (start count : Byte) (fill : List Byte) :
    (readBytes tag start count ++ fill).getD 1 0 = start ∧ (readBytes tag start count ++ fill).getD 2 0 = count :=
  ⟨rfl, rfl⟩

theorem readBytes_kind (tag : BitVec 6) (start count : Byte) (fill : List Byte) :
    headerKind (readBytes tag start count ++ fill) = 1 := headerByte_kind 1 tag

section
variable {s : State} {f : Frame} {start count : Byte}

theorem State.readWords_withLink (s : State) (l : Link) (b : Bool) (start count : Byte) :
    (({ s with link := l } : State).captureHold b).readWords start count = (s.captureHold b).readWords start count :=
  List.map_congr_left fun r _ => r.read_withLink (s.captureHold b) l

/-- A READ with its snapshot (R4). -/
def Flight.withWords (q : Flight) (ws : List Word) : Flight := { q with words := some ws }

/-- A boundary that gives the READ in flight its snapshot (R4, R6). -/
theorem State.snapshot_due {q : Flight} (hq : s.link.flight = some q) (hd : q.due = true) :
    s.snapshot = { s with
      time := { s.time with hold := if s.link.owed || q.owes then s.time.tstamp.extractLsb' 16 16 else s.time.hold }
      link := { s.link with
        owed := false
        flight := some (q.withWords ((s.captureHold (s.link.owed || q.owes)).readWords (q.host.getD 1 0) (q.host.getD 2 0))) } } := by
  have hs : ∀ b, (s.captureHold b).link.flight = some q := fun _ => hq
  unfold State.snapshot
  simp only [hq, hs, Option.any_some, Option.map_some, if_pos hd]
  rfl

theorem Flight.owes_due {q : Flight} (hd : q.due = true)
    (hc : rangeCheck (q.host.getD 1 0) (q.host.getD 2 0) = none) : q.owes = decide (q.host.getD 1 0 = 0) := by
  unfold Flight.owes
  rw [hd, Bool.true_and]
  exact decide_eq_decide.2 (tstampLo_mem hc)

/-- The boundary of a READ with nothing in between: its snapshot, after the captures that are due (R4, R6). -/
theorem State.readBoundary_still (hr : s.inReset = false) (hf : s.settle.link.flight = none) (hd : f.during = [])
    (hc : rangeCheck start count = none) :
    s.readBoundary f ⟨start, count⟩ = { s.settle with
      time := { s.settle.time with hold :=
        if start = 0 ∨ s.settle.link.owed = true then s.settle.time.tstamp.extractLsb' 16 16 else s.settle.time.hold }
      link := { s.settle.link with
        owed := false
        flight := some ⟨readBytes f.tag start count, s.settle.statusByte, s.settle.link.result, true,
          (headBytes s.settle.statusByte s.settle.link.result).take 4,
          some ((s.settle.captureHold (decide (start = 0 ∨ s.settle.link.owed = true))).readWords start count), false⟩ } } := by
  have hdue : (s.settle.still (readBytes f.tag start count)).due = true := by
    refine (Flight.due_iff (q := s.settle.still (readBytes f.tag start count)) ?_ rfl rfl hc).2 ⟨Nat.le_refl 4, (by decide : 4 < 8)⟩
    exact headerByte_kind 1 f.tag
  have howes : (s.settle.still (readBytes f.tag start count)).owes = decide (start = 0) := Flight.owes_due hdue hc
  have hb : (s.settle.link.owed || decide (start = 0)) = decide (start = 0 ∨ s.settle.link.owed = true) := by
    rw [Bool.decide_or, Bool.or_comm, Bool.decide_eq_true]
  have hn : ∀ b : Bool, (b && !decide (7 < 4)) = b := by decide
  unfold State.readBoundary
  rw [if_neg (by simp [hr]), hd, State.transfer_still (by simp [readBytes, sealFrame]) hf,
    State.snapshot_due (q := s.settle.still (readBytes f.tag start count)) rfl hdue, howes]
  dsimp only
  rw [hb, State.readWords_withLink, readBytes_length, hn]
  simp only [decide_eq_true_iff]
  rfl

end

end Sys2Proof.Machine

open Sys2Proof Sys2Proof.Machine

/-- Settles O58: CLKSTAT's fields, and the READ of it at its boundary. -/
theorem clkstatLayout : Obligations.ClkstatLayout := by
  refine ⟨rfl, rfl, fun s h => ?_, fun f s u hr hu hf hd => ?_⟩
  · obtain ⟨hm, hb, hn⟩ := ClockMon.clkstat_parts h
    have hcode : BitVec.ofNat 2 s.clk.mon.number =
        (match s.clk.mon with | .good => 0 | .lost => 1 | .recovering => 2 : BitVec 2) := by cases s.clk.mon <;> rfl
    have h3 : BitVec.ofNat 2 s.clk.mon.number ≠ (3 : BitVec 2) := by cases s.clk.mon <;> decide
    refine ⟨hm.trans hcode, hb, hn, ?_⟩
    change s.clk.clkstat.extractLsb' 14 2 ≠ _
    rw [hm]
    exact h3
  · subst hu
    refine congrArg Host.Outcome.next ((State.readBoundary_still (start := 0x02) (count := 1) hr hf hd rfl).trans ?_)
    have h0 : ((0x02 : Byte) = 0 ∨ s.settle.link.owed = true) ↔ s.settle.link.owed = true := by simp
    simp only [h0]
    rfl

end

section
/-! SUPPORT. The pins' frames, and what a tick and the bytes of a transaction leave of the READ in flight. -/

namespace Sys2Proof.Machine

/-! ### The pins -/

/-- A part of a tick that leaves the pins, however it ends. -/
abbrev KeepsPins (q : Pins) (p : Progress) : Prop := p.Holds (fun t => t.pins = q) fun t => t.pins = q

section
variable {q : Pins} {s : State}

theorem State.softReset_pins (s : State) (kind : ResetKind) (cold : Bool) : (s.softReset kind cold).pins = s.pins := by
  have hb : (s.softResetBlocks kind cold).pins = s.pins := rfl
  unfold State.softReset
  dsimp only
  split <;> simp [hb]

theorem State.raiseHard_pins (h : s.pins = q) (src : Source) (c : Cause) (other : Source) :
    KeepsPins q (s.raiseHard src c other) := by
  have e : (s.raised src c).pins = q := by simp [State.raised, h]
  rw [State.raiseHard_eq]
  split
  · exact .abandoned ((State.softReset_pins _ _ _).trans e)
  · exact .goes e

theorem State.wdgItem_pins (h : s.pins = q) : KeepsPins q s.wdgItem := by
  unfold State.wdgItem
  dsimp only
  split
  · exact .goes h
  · split <;> exact .goes h
  · split
    · exact .goes (by simpa using h)
    · exact .goes h
  · split
    · exact .abandoned ((State.softReset_pins _ _ _).trans h)
    · exact .goes h

theorem State.scrubItem_pins (h : s.pins = q) : KeepsPins q s.scrubItem := by
  unfold State.scrubItem
  split
  · split
    · exact .goes h
    · unfold State.scrubRead
      split
      · exact .goes h
      · rw [State.scrubPassEnd_eq]
        split
        · split
          · exact .goes (by simpa using h)
          · exact .goes h
        · split
          · exact .goes h
          · exact State.raiseHard_pins (s := s.nextPass true) h _ _ _
  · exact .goes h

theorem handOffsFrom_pins (l : List HandOff) : ∀ {s : State}, s.pins = q → KeepsPins q (handOffsFrom l s) := by
  induction l with
  | nil => exact fun h => .goes h
  | cons o rest ih =>
    refine fun {s} h => Progress.Holds.bind (M := fun t => t.pins = q) ?_ fun t ht => ih ht
    cases o with
    | raise =>
      unfold State.handOff
      exact State.raiseHard_pins (by exact h) _ _ _
    | clear => exact .goes (by simpa using h)

theorem State.runItem_pins (h : s.pins = q) (inp : Samples) (i : Item) : KeepsPins q (s.runItem inp i) := by
  cases i with
  | line k =>
    refine .goes ?_
    unfold State.lineItem
    dsimp only
    split
    · simpa using h
    · exact h
  | wdg => exact State.wdgItem_pins h
  | scrub => exact State.scrubItem_pins h
  | clk => exact handOffsFrom_pins _ h
  | commitTable k | commitChannel k =>
    refine .goes ?_
    unfold State.commitItem
    split
    · simpa using h
    · exact h
  | _ => exact .goes (by simpa using h)

theorem runItems_pins (inp : Samples) (l : List Item) : ∀ {s : State}, s.pins = q → KeepsPins q (runItems inp l s) := by
  induction l with
  | nil => exact fun h => .goes h
  | cons i rest ih => exact fun h => (State.runItem_pins h inp i).bind fun t ht => ih ht

theorem State.settle_pins (s : State) : s.settle.pins = s.pins := by
  unfold State.settle
  split
  · rfl
  · exact ((runItems_pins _ _ rfl).bind fun t ht => .goes ht).st (fun _ h => h) fun _ h => h

theorem ActMove.pins {s t : State} (hm : ActMove s t) : t.pins = s.pins := by
  cases hm with
  | lapse _ => simp [State.lapseNow]
  | _ => simp

end

/-! ### The transaction in flight -/

/-- What the bytes of a transaction alone do to it: a reset may abandon it (R168). -/
structure Flight.Same (bytes : List Byte) (q r : Flight) : Prop where
  host : r.host = q.host ++ bytes
  words : r.words = q.words
  dead : q.dead = true → r.dead = true

/-- What the bytes of a transaction and what happens in between do to it: a boundary may give it its snapshot (R4). -/
structure Flight.Later (bytes : List Byte) (q r : Flight) : Prop where
  host : r.host = q.host ++ bytes
  words : q.words.isSome = true → r.words.isSome = true
  dead : q.dead = true → r.dead = true

theorem Flight.Same.later {bytes : List Byte} {q r : Flight} (h : q.Same bytes r) : q.Later bytes r :=
  ⟨h.host, fun hw => by rwa [h.words], h.dead⟩

theorem Flight.Same.refl (q : Flight) : q.Same [] q := ⟨(List.append_nil _).symm, rfl, id⟩

theorem Flight.Same.trans {a b : List Byte} {q r v : Flight} (h : q.Same a r) (g : r.Same b v) : q.Same (a ++ b) v :=
  ⟨by rw [g.host, h.host, List.append_assoc], g.words.trans h.words, g.dead ∘ h.dead⟩

theorem Flight.Later.trans {a b : List Byte} {q r v : Flight} (h : q.Later a r) (g : r.Later b v) : q.Later (a ++ b) v :=
  ⟨by rw [g.host, h.host, List.append_assoc], g.words ∘ h.words, g.dead ∘ h.dead⟩

/-- A step that begins and ends no POR or PIN, and what it does to the transaction in flight. -/
structure Flies (R : Flight → Flight → Prop) (s t : State) : Prop where
  lines : t.inReset = s.inReset
  flight : ∀ {q}, s.link.flight = some q → ∃ r, t.link.flight = some r ∧ R q r

section
variable {s t u : State}

theorem Flies.mono {R S : Flight → Flight → Prop} (h : Flies R s t) (w : ∀ {q r}, R q r → S q r) : Flies S s t :=
  ⟨h.lines, fun hq => let ⟨r, hr, g⟩ := h.flight hq; ⟨r, hr, w g⟩⟩

theorem Flies.trans {R S T : Flight → Flight → Prop} (h : Flies R s t) (g : Flies S t u)
    (w : ∀ {q r v}, R q r → S r v → T q v) : Flies T s u :=
  ⟨g.lines.trans h.lines, fun hq =>
    let ⟨_, hr, a⟩ := h.flight hq
    let ⟨v, hv, b⟩ := g.flight hr
    ⟨v, hv, w a b⟩⟩

theorem inReset_pins (h : t.pins = s.pins) : t.inReset = s.inReset := by
  unfold State.inReset
  rw [h]

theorem Flies.kept (hp : t.pins = s.pins) (hf : t.link.flight = s.link.flight) : Flies (Flight.Same []) s t :=
  ⟨inReset_pins hp, fun hq => ⟨_, hf.trans hq, .refl _⟩⟩

theorem Flies.reset {kind : ResetKind} (hp : t.pins = s.pins) (hl : t.link = s.link.reset kind) :
    Flies (Flight.Same []) s t :=
  ⟨inReset_pins hp, fun {q} hq => ⟨{ q with dead := true }, by rw [hl, Link.reset, hq]; rfl,
    ⟨(List.append_nil _).symm, rfl, fun _ => rfl⟩⟩⟩

theorem Flies.after (h : Flies (Flight.Same []) s t) (g : Flies (Flight.Same []) t u) : Flies (Flight.Same []) s u :=
  h.trans g Flight.Same.trans

theorem ActMove.flies (hm : ActMove s t) : Flies (Flight.Same []) s t := by
  cases hm with
  | lapse _ => exact .kept (by simp [State.lapseNow]) (by simp [State.lapseNow])
  | _ => exact .kept (by simp) (by simp)

/-- A stored result is the most recent one, whatever the transaction in flight captured (R159). -/
theorem Flies.stored (h : Flies (Flight.Same []) s t) (kind : BitVec 2) (tag : BitVec 6) (v : Byte) (p : Quad) :
    Flies (Flight.Same []) s (t.storeResult kind tag v p) :=
  h.after ⟨rfl, fun {q} hq =>
    ⟨{ q with current := false }, by simp [State.storeResult, hq], ⟨(List.append_nil _).symm, rfl, id⟩⟩⟩

theorem Flies.finished (h : Flies (Flight.Same []) s t) (tag : BitVec 6) (code : Byte) (args : Quad) (v : Verdict)
    (p : Quad) : Flies (Flight.Same []) s (t.finishAction tag code args v p) :=
  Flies.stored (t := { t with link := { t.link with replay := some ⟨tag, code, args, v.byte, p⟩, chain := true } })
    ⟨h.lines, h.flight⟩ 3 tag v.byte p

theorem Flies.broken (h : Flies (Flight.Same []) s t) : Flies (Flight.Same []) s t.endConfirm.breakChain :=
  ⟨h.lines, h.flight⟩

theorem Flies.refl (s : State) : Flies (Flight.Same []) s s := .kept rfl rfl

theorem Reg.store_flies (r : Reg) (w : Word) : Flies (Flight.Same []) s (r.store w s) := by
  refine .kept ?_ ?_
  all_goals cases r <;> simp [Reg.store]

theorem State.storeWords_flies (ws : List (Nat × Reg × Word)) : ∀ {t : State}, Flies (Flight.Same []) s t →
    Flies (Flight.Same []) s (t.storeWords ws) := by
  induction ws with
  | nil => exact fun h => h
  | cons x rest ih => exact fun h => ih (h.after (Reg.store_flies x.2.1 x.2.2))

theorem State.applyJudged_flies (s : State) (j : Judged) :
    (s.applyJudged j).Holds (Flies (Flight.Same []) s) (Flies (Flight.Same []) s) := by
  have refl : Flies (Flight.Same []) s s := .refl s
  have ended : Flies (Flight.Same []) s s.endConfirm := ⟨refl.lines, refl.flight⟩
  cases j with
  | action tag code args =>
    unfold State.applyJudged State.applyAction
    dsimp only
    split
    · exact .goes (ended.stored _ _ _ _)
    · generalize ho : actByCode code s.link.confirm args s.endConfirm = o
      cases ho ▸ actByCode_move code s.link.confirm args s.endConfirm with
      | done hm => exact .goes ((ended.after hm.flies).finished _ _ _ _ _)
      | reset hr =>
        subst hr
        exact .abandoned (ended.after (.reset (State.softReset_pins _ _ _) (State.cmdReset_link _)))
  | write tag start count data =>
    refine .goes ?_
    unfold State.applyWrite
    dsimp only
    split
    · exact refl.broken.stored _ _ _ _
    · exact (State.storeWords_flies _ refl.broken).stored _ _ _ _
  | read tag start count snapped => exact .goes (refl.broken.stored _ _ _ _)
  | bad kind tag short p => exact .goes (Flies.stored (t := s.countError) ⟨refl.lines, refl.flight⟩ _ _ _ _)

theorem applyAll_flies (l : List Judged) : ∀ {s : State},
    (applyAll l s).Holds (Flies (Flight.Same []) s) (Flies (Flight.Same []) s) := by
  induction l with
  | nil => exact fun {s} => .goes (.refl s)
  | cons j rest ih =>
    intro s
    have h := s.applyJudged_flies j
    unfold applyAll
    cases hp : s.applyJudged j with
    | abandoned t =>
      rw [hp] at h
      exact h
    | goes t =>
      rw [hp] at h
      cases h with
      | goes h =>
        exact (ih (s := t)).mono (fun _ g => h.after g) fun _ g => h.after g

/-- A tick in progress leaves the transaction in flight, or abandons it (R168). -/
theorem State.settle_flies (s : State) : Flies (Flight.Same []) s s.settle := by
  obtain h | ⟨-, why, -, hl⟩ := s.settle_runs
  · exact .kept s.settle_pins (congrArg Link.flight h.link)
  · exact .reset s.settle_pins hl

/-- A READ in flight after a tick boundary (R4). -/
structure Flight.Ticked (q r : Flight) : Prop where
  host : r.host = q.host
  words : r.words.isSome = (q.words.isSome || q.due)
  dead : q.dead = true → r.dead = true

theorem Flight.Ticked.later {q r : Flight} (h : q.Ticked r) : q.Later [] r :=
  ⟨h.host.trans (List.append_nil _).symm, fun hw => by rw [h.words, hw, Bool.true_or], h.dead⟩

/-- A READ in flight after a tick boundary: its words if one was due (R4). -/
def Flight.snap (q : Flight) (ws : List Word) : Flight := if q.due then { q with words := some ws } else q

theorem Flight.snap_ticked (q : Flight) (ws : List Word) : q.Ticked (q.snap ws) := by
  unfold Flight.snap
  split
  · exact ⟨rfl, by simp [*], id⟩
  · exact ⟨rfl, by simp [*], id⟩

theorem State.beginTick_flies (s : State) (inp : Samples) : Flies Flight.Ticked s (s.beginTick inp).noWaiting :=
  ⟨by simp [State.inReset], fun {q} hq => ⟨_, congrArg (Option.map _) hq, q.snap_ticked _⟩⟩

/-- A whole tick after the one in progress (R4). -/
theorem State.wholeTick_flies (ht : s.tick = none) (hr : s.inReset = false) (inp : Samples) :
    Flies Flight.Ticked s (s.wholeTick inp) := by
  have h1 : Flies (Flight.Same []) (s.beginTick inp).noWaiting (s.openTick inp).st :=
    (applyAll_flies s.link.waiting).st (fun _ h => h) fun _ h => h
  have h2 := h1.after (s.openTick inp).st.settle_flies
  unfold State.wholeTick
  rw [if_neg (by simp [hr]), s.settle_idle ht]
  exact (s.beginTick_flies inp).trans h2 fun a b =>
    ⟨(b.host.trans (List.append_nil _)).trans a.host, by rw [b.words, a.words], b.dead ∘ a.dead⟩

end

/-! ### The bytes of a transaction -/

section
variable {s : State}

theorem State.mid_flies (ht : s.tick = none) (m : MidEvent) : Flies (Flight.Later []) s (s.mid m) := by
  cases m with
  | clock e => exact (Flies.kept (s := s) (t := s.clockEvent e) (s.clockEvent_pins e) rfl).mono Flight.Same.later
  | tick inp =>
    cases hr : s.inReset with
    | false => exact (State.wholeTick_flies ht hr inp).mono Flight.Ticked.later
    | true =>
      have e : s.mid (.tick inp) = s := if_pos hr
      rw [e]
      exact (Flies.refl s).mono Flight.Same.later

theorem mids_fly (mids : List Mid) : ∀ {s : State}, s.tick = none →
    Flies (Flight.Later []) s (mids.foldl (fun s m => s.mid m.event) s) := by
  induction mids with
  | nil => exact fun {s} _ => (Flies.refl s).mono Flight.Same.later
  | cons m rest ih =>
    exact fun ht => (State.mid_flies ht m.event).trans (ih (State.mid_tick ht m.event)) Flight.Later.trans

theorem State.clockByte_flies (s : State) (b : Byte) : Flies (Flight.Same [b]) s (s.clockByte b) := by
  refine ⟨?_, fun {q} hq => ?_⟩
  · unfold State.clockByte
    split
    · rfl
    · dsimp only
      split <;> rfl
  · unfold State.clockByte
    rw [hq]
    dsimp only
    split
    · exact ⟨_, rfl, ⟨rfl, rfl, id⟩⟩
    · exact ⟨_, rfl, ⟨rfl, rfl, id⟩⟩

theorem carry_flies (bytes : List Byte) : ∀ (n : Nat) (mids : List Mid) {s : State}, s.tick = none →
    Flies (Flight.Later bytes) s (carry n bytes mids s) := by
  induction bytes with
  | nil => exact fun _ mids _ h => mids_fly mids h
  | cons b rest ih =>
    intro n mids s h
    have hm := mids_tick (mids.takeWhile fun m => decide (m.after ≤ n)) h
    have h1 := (mids_fly (mids.takeWhile fun m => decide (m.after ≤ n)) h).trans
      ((State.clockByte_flies _ b).mono Flight.Same.later) Flight.Later.trans
    exact h1.trans (ih _ _ ((State.clockByte_tick _ b).trans hm)) Flight.Later.trans

theorem carry_alone (bytes : List Byte) : ∀ (n : Nat) {s : State}, Flies (Flight.Same bytes) s (carry n bytes [] s) := by
  induction bytes with
  | nil => exact fun _ s => .refl s
  | cons b rest ih => exact fun n s => (State.clockByte_flies s b).trans (ih (n + 1)) Flight.Same.trans

/-- What happens at a moment that has come happens first. -/
theorem carry_due {n : Nat} {m : Mid} (h : m.after ≤ n) (bytes : List Byte) (rest : List Mid) (s : State) :
    carry n bytes (m :: rest) s = carry n bytes rest (s.mid m.event) := by
  cases bytes with
  | nil => rfl
  | cons b bs =>
    unfold carry
    simp only [List.takeWhile_cons, List.dropWhile_cons, decide_eq_true h, if_true, List.foldl_cons]

theorem carry_cons_mids (n : Nat) (b : Byte) (bytes : List Byte) (mids : List Mid) (s : State) :
    carry n (b :: bytes) mids s = carry (n + 1) bytes (mids.dropWhile fun m => decide (m.after ≤ n))
      (((mids.takeWhile fun m => decide (m.after ≤ n)).foldl (fun s m => s.mid m.event) s).clockByte b) := rfl

/-- The bytes up to a moment, with what happens until then; the rest comes after it. -/
theorem carry_split (head : List Byte) : ∀ {n : Nat} {pre post : List Mid} (tail : List Byte) (s : State),
    (∀ m ∈ pre, m.after ≤ n + head.length) → (∀ m ∈ post.head?, n + head.length ≤ m.after) →
    carry n (head ++ tail) (pre ++ post) s = carry (n + head.length) tail post (carry n head pre s) := by
  induction head with
  | nil =>
    intro n pre post tail s hpre _
    induction pre generalizing s with
    | nil => rfl
    | cons m rest ih =>
      rw [List.nil_append, List.cons_append, carry_due (n := n) (hpre m List.mem_cons_self)]
      exact ih _ fun x hx => hpre x (List.mem_cons_of_mem _ hx)
  | cons b bs ih =>
    intro n pre post tail s hpre hpost
    have later : post.takeWhile (fun m => decide (m.after ≤ n)) = [] ∧
        post.dropWhile (fun m => decide (m.after ≤ n)) = post := by
      cases post with
      | nil => exact ⟨rfl, rfl⟩
      | cons m rest =>
        have hm := hpost m rfl
        rw [List.length_cons] at hm
        have hf : decide (m.after ≤ n) = false := decide_eq_false (by omega)
        simp [hf]
    have ht : (pre ++ post).takeWhile (fun m => decide (m.after ≤ n)) = pre.takeWhile fun m => decide (m.after ≤ n) := by
      rw [List.takeWhile_append, later.1, List.append_nil]
      split
      · exact ((List.takeWhile_sublist _).eq_of_length ‹_›).symm
      · rfl
    have hd : (pre ++ post).dropWhile (fun m => decide (m.after ≤ n)) =
        (pre.dropWhile fun m => decide (m.after ≤ n)) ++ post := by
      rw [List.dropWhile_append, later.2]
      split
      · simp_all
      · rfl
    have e : n + 1 + bs.length = n + (b :: bs).length := by simp +arith
    have hi := ih (n := n + 1) (pre := pre.dropWhile fun m => decide (m.after ≤ n)) (post := post) tail
      (((pre.takeWhile fun m => decide (m.after ≤ n)).foldl (fun s m => s.mid m.event) s).clockByte b)
      (fun m hm => e ▸ hpre m (List.dropWhile_subset _ hm)) (fun m hm => e ▸ hpost m hm)
    rw [List.cons_append, carry_cons_mids, ht, hd, hi, e, carry_cons_mids]

end

end Sys2Proof.Machine
end

section
/-! SUPPORT. A READ carried through its boundary: its stream, its answer, and which boundary is in time. -/

namespace Sys2Proof.Machine

theorem streamFrom_add (l : List Byte) (i a b : Nat) : streamFrom l i (a + b) = streamFrom l i a ++ streamFrom l (i + a) b := by
  simp [streamFrom, List.range_add, Nat.add_assoc, Function.comp_def]

section
variable {s s1 : State} {f : Frame} {start count : Byte} {q : Flight}

/-- A transaction that begins when nCS is high. -/
theorem State.transfer_fresh (hf : s.settle.link.flight = none) (bytes : List Byte) (during : List Mid) :
    s.transfer bytes during = carry 0 bytes during s.settle.fall := by
  have ht : s.settle.take bytes = s.settle.fall := by
    unfold State.take
    rw [hf]
  unfold State.transfer
  dsimp only
  rw [ht]
  rfl

/-- The READ that a boundary has left in flight is carried on by its own bytes (R161; log entry 13). -/
theorem State.transfer_resumed {tag : BitVec 6} {fill : List Byte} (ht : s.tick = none) (hq : s.link.flight = some q)
    (hh : q.host = readBytes tag start count) (hs : q.sent.length = 4) (hd : q.dead = false) :
    (s.transfer (readBytes tag start count ++ fill) []).link.flight =
      some { q with host := q.host ++ fill, sent := q.sent ++ streamFrom q.stream 4 fill.length } := by
  have hby : q.isBy (readBytes tag start count ++ fill) = true := by
    unfold Flight.isBy
    rw [hh, List.take_append_of_le_length (by rw [readBytes_length]; decide)]
    simp [readBytes_length]
  have htake : s.settle.take (readBytes tag start count ++ fill) = s := by
    rw [s.settle_idle ht]
    unfold State.take
    rw [hq]
    exact if_pos hby
  have hc : s.clocked = 4 := by
    unfold State.clocked
    rw [hq]
    exact hs
  have hne : q.sent ≠ [] := fun h => by simp [h] at hs
  unfold State.transfer
  dsimp only
  rw [htake, hc, show (readBytes tag start count ++ fill).drop 4 = fill from rfl, carry_rest fill 4 s q hq hne hd, hs]

/-- The READ that its boundary leaves in flight, with its snapshot (R4, R158). -/
def State.readInFlight (u : State) (bytes : List Byte) (ws : List Word) : Flight :=
  ⟨bytes, u.statusByte, u.link.result, true, (headBytes u.statusByte u.link.result).take 4, some ws, false⟩

/-- Its stream is the status byte, the record and the snapshot (R158, R161). -/
theorem State.transfer_readInFlight {u : State} {tag : BitVec 6} {fill : List Byte} {ws : List Word} (ht : s.tick = none)
    (hi : s.link.flight = some (u.readInFlight (readBytes tag start count) ws))
    (hq : (s.transfer (readBytes tag start count ++ fill) []).link.flight = some q) :
    q.words = some ws ∧ q.sent = (List.range (4 + fill.length)).map fun i =>
      (headBytes u.statusByte u.link.result ++ dataBytes ws).getD i 0 := by
  rw [State.transfer_resumed ht hi rfl rfl rfl] at hq
  cases hq
  have hs := streamFrom_add (headBytes u.statusByte u.link.result ++ dataBytes ws) 0 4 fill.length
  simp only [streamFrom, Nat.zero_add] at hs
  exact ⟨rfl, hs.symm⟩

/-- One thing in between, at its place or after the last byte. -/
theorem carry_one (bytes : List Byte) (n : Nat) (e : MidEvent) (s : State) :
    carry 0 bytes [⟨n, e⟩] s = carry (min n bytes.length) (bytes.drop (min n bytes.length)) []
      ((carry 0 (bytes.take (min n bytes.length)) [] s).mid e) := by
  have hl : (bytes.take (min n bytes.length)).length = min n bytes.length := by simp
  have h := carry_split (bytes.take (min n bytes.length)) (n := 0) (pre := []) (post := [⟨n, e⟩])
    (bytes.drop (min n bytes.length)) s (by simp) (by simp)
  rw [List.take_append_drop, List.nil_append, hl, Nat.zero_add] at h
  rw [h]
  by_cases hn : n ≤ bytes.length
  · exact carry_due (Nat.le_of_eq (Nat.min_eq_left hn).symm) _ _ _
  · rw [Nat.min_eq_right (by omega), List.drop_length]
    rfl

/-- A READ whose bytes begin so is due by how many there are (R4). -/
theorem Flight.read_due {tag : BitVec 6} {fill : List Byte} {m : Nat} (hc : rangeCheck start count = none)
    (hh : q.host = (readBytes tag start count ++ fill).take m) (hm : m ≤ 4 + fill.length) (hd : q.dead = false)
    (hw : q.words = none) : q.due = true ↔ 4 ≤ m ∧ m < 8 := by
  have hl : q.host.length = m := by
    rw [hh, List.length_take, List.length_append, readBytes_length]
    omega
  by_cases h4 : 4 ≤ m
  · have he : q.host = readBytes tag start count ++ fill.take (m - 4) := by
      rw [hh, List.take_append, readBytes_length, List.take_of_length_le (by rw [readBytes_length]; omega)]
    have h := Flight.due_iff (q := q) (by rw [he]; exact readBytes_kind _ _ _ _) hd hw
      (by rw [he, (readBytes_start _ _ _ _).1, (readBytes_start _ _ _ _).2]; exact hc)
    rwa [hl] at h
  · constructor
    · intro h
      unfold Flight.due at h
      simp [hl, h4] at h
    · omega

/-- A tick after the CRC byte of a READ, with anything before and after it, gives the READ its snapshot (R4). -/
theorem carry_snapshot {tag : BitVec 6} {inp : Samples} {s : State} {q0 : Flight} (ht : s.tick = none) (hr : s.inReset = false)
    (hq0 : s.link.flight = some q0) (h0 : q0.host = []) (hc : rangeCheck start count = none)
    (hq : (carry 0 (readBytes tag start count ++ f.fill) ((f.tickAfter 4 (some inp)).during) s).link.flight = some q)
    (hd : q.dead = false) : q.words.isSome = true := by
  have hpre : ∀ m ∈ f.during.takeWhile (fun m => decide (m.after < 4)), m.after ≤ 0 + (readBytes tag start count).length := by
    intro m hm
    have h4 := List.mem_takeWhile_imp (p := fun m : Mid => decide (m.after < 4)) hm
    have := of_decide_eq_true h4
    rw [readBytes_length]
    omega
  have hsplit := carry_split (readBytes tag start count) (n := 0)
    (post := ⟨4, .tick inp⟩ :: f.during.dropWhile fun m => decide (m.after < 4)) f.fill s hpre
    (fun m hm => by cases hm; exact Nat.le_refl 4)
  have hd4 := carry_due (n := 4) (m := ⟨4, .tick inp⟩) (Nat.le_refl 4) f.fill
    (f.during.dropWhile fun m => decide (m.after < 4))
    (carry 0 (readBytes tag start count) (f.during.takeWhile fun m => decide (m.after < 4)) s)
  have before := carry_flies (readBytes tag start count) 0 (f.during.takeWhile fun m => decide (m.after < 4)) ht
  have ht1 := carry_tick (readBytes tag start count) 0 (f.during.takeWhile fun m => decide (m.after < 4)) ht
  have tick := State.wholeTick_flies ht1 (before.lines.trans hr) inp
  have after := carry_flies f.fill 4 (f.during.dropWhile fun m => decide (m.after < 4))
    (State.mid_tick ht1 (.tick inp))
  obtain ⟨q1, hq1, g1⟩ := before.flight hq0
  obtain ⟨q2, hq2, g2⟩ := tick.flight hq1
  obtain ⟨q3, hq3, g3⟩ := after.flight hq2
  obtain rfl : q3 = q := Option.some.inj (hq3.symm.trans ((congrArg (·.link.flight) (hsplit.trans hd4)).symm.trans hq))
  have hd1 : q1.dead = false := by
    cases h1 : q1.dead with
    | false => rfl
    | true => simp [g3.dead (g2.dead h1)] at hd
  refine g3.words ?_
  rw [g2.words]
  cases hw : q1.words with
  | some ws => rfl
  | none =>
    have hh : q1.host = (readBytes tag start count ++ f.fill).take 4 := by rw [g1.host, h0]; rfl
    exact (Flight.read_due hc hh (by omega) hd1 hw).2 ⟨Nat.le_refl 4, by decide⟩

/-- A READ without a boundary is due at its rise up to its byte 7 (R4, R6). -/
theorem State.still_due {tag : BitVec 6} {fill : List Byte} (hc : rangeCheck start count = none) :
    (s.still (readBytes tag start count ++ fill)).due = true ↔ 4 + fill.length < 8 := by
  have hl : (readBytes tag start count ++ fill).length = 4 + fill.length := by rw [List.length_append, readBytes_length]
  have h := Flight.read_due (q := s.still (readBytes tag start count ++ fill)) (fill := fill) hc
    (List.take_of_length_le (Nat.le_of_eq hl)).symm (Nat.le_refl _) rfl rfl
  exact h.trans ⟨fun x => x.2, fun x => ⟨by omega, x⟩⟩

/-- A READ with one tick in between has its snapshot exactly if that falls in time (R4). -/
theorem carry_one_snapshot {tag : BitVec 6} {fill : List Byte} {n m : Nat} {inp : Samples} {s : State} {q0 : Flight}
    (ht : s.tick = none) (hr : s.inReset = false) (hq0 : s.link.flight = some q0) (h0 : q0.host = [])
    (hw0 : q0.words = none) (hc : rangeCheck start count = none) (hm : m = min n (4 + fill.length))
    (hq : (carry 0 (readBytes tag start count ++ fill) [⟨n, .tick inp⟩] s).link.flight = some q) (hd : q.dead = false) :
    q.host = readBytes tag start count ++ fill ∧ (q.words.isSome = true ↔ 4 ≤ m ∧ m < 8) := by
  have hl : (readBytes tag start count ++ fill).length = 4 + fill.length := by rw [List.length_append, readBytes_length]
  rw [carry_one, hl, ← hm] at hq
  have before := carry_alone ((readBytes tag start count ++ fill).take m) 0 (s := s)
  have ht1 := carry_tick ((readBytes tag start count ++ fill).take m) 0 [] ht
  have tick := State.wholeTick_flies ht1 (before.lines.trans hr) inp
  obtain ⟨q1, hq1, g1⟩ := before.flight hq0
  obtain ⟨q2, hq2, g2⟩ := tick.flight hq1
  obtain ⟨q3, hq3, g3⟩ := (carry_alone ((readBytes tag start count ++ fill).drop m) m).flight hq2
  obtain rfl : q3 = q := Option.some.inj (hq3.symm.trans hq)
  have hh : q1.host = (readBytes tag start count ++ fill).take m := by rw [g1.host, h0]; rfl
  have hw1 : q1.words = none := g1.words.trans hw0
  have hd1 : q1.dead = false := by
    cases h1 : q1.dead with
    | false => rfl
    | true => simp [g3.dead (g2.dead h1)] at hd
  refine ⟨by rw [g3.host, g2.host, hh, List.take_append_drop], ?_⟩
  rw [g3.words, g2.words, hw1]
  exact Flight.read_due hc hh (by omega) hd1 hw1

/-- A READ whose boundary may have fallen by its byte m is snapped then, or at its rise (R4). -/
theorem Flight.read_snapped {tag : BitVec 6} {fill : List Byte} {m : Nat} (hc : rangeCheck start count = none)
    (hh : q.host = readBytes tag start count ++ fill) (hd : q.dead = false) (hw : q.words.isSome = true ↔ 4 ≤ m ∧ m < 8) :
    q.snapped = true ↔ (4 ≤ m ∧ m < 8) ∨ fill.length < 4 := by
  have hl : (readBytes tag start count ++ fill).length = 4 + fill.length := by rw [List.length_append, readBytes_length]
  unfold Flight.snapped
  cases hs : q.words with
  | some ws =>
    rw [hs] at hw
    exact ⟨fun _ => .inl (hw.1 rfl), fun _ => rfl⟩
  | none =>
    rw [hs] at hw
    have hdue := Flight.read_due hc (hh.trans (List.take_of_length_le (Nat.le_of_eq hl)).symm) (Nat.le_refl _) hd hs
    have hn : ¬ (4 ≤ m ∧ m < 8) := fun h => by simpa using hw.2 h
    exact hdue.trans ⟨fun h => .inr (by omega), fun h => h.elim (absurd · hn) fun h => ⟨by omega, by omega⟩⟩

/-- A READ with nothing in between owes the capture of TSTAMP if it ends by its byte 7 (R4, R6). -/
theorem State.still_owes {a b c d : Byte} {fill : List Byte} (hk : headerKind [a, b, c, d] = 1)
    (hc : rangeCheck b c = none) :
    (s.still ([a, b, c, d] ++ fill)).owes = decide (b = 0 ∧ fill.length < 4) := by
  have hl : ([a, b, c, d] ++ fill).length = 4 + fill.length := by simp +arith
  have hdue : (s.still ([a, b, c, d] ++ fill)).due = true ↔ 4 ≤ ([a, b, c, d] ++ fill).length ∧ ([a, b, c, d] ++ fill).length < 8 :=
    Flight.due_iff (q := s.still ([a, b, c, d] ++ fill)) hk rfl rfl hc
  by_cases h4 : fill.length < 4
  · have e := Flight.owes_due (q := s.still ([a, b, c, d] ++ fill)) (hdue.2 (by omega)) hc
    exact e.trans (decide_eq_decide.2 ⟨fun h => ⟨h, h4⟩, fun h => h.1⟩)
  · have e : (s.still ([a, b, c, d] ++ fill)).due = false := Bool.eq_false_iff.2 fun h => h4 (by have := hdue.1 h; omega)
    unfold Flight.owes
    rw [e, Bool.false_and, decide_eq_false fun h => h4 h.2]

/-- The capture of TSTAMP at the boundary after a READ with nothing in between, or of one before it (R4, R6). -/
theorem Lands.hold {bytes : List Byte} (hf : s.settle.link.flight = none) (hw : s.settle.link.waiting = []) (hd : f.during = [])
    (hl : bytes.length = 4) (hk : headerKind bytes = 1) (hc : rangeCheck (bytes.getD 1 0) (bytes.getD 2 0) = none)
    (h : Lands f bytes q s s1) :
    s1.time.hold = if (bytes.getD 1 0 = 0 ∧ f.fill.length < 4) ∨ s.settle.link.owed = true then
      s.settle.time.tstamp.extractLsb' 16 16 else s.settle.time.hold := by
  match bytes, hl with
  | [a, b, c, d], _ =>
    obtain ⟨-, -, -, inp, v, -, rfl, ha⟩ := h
    have idle : ∀ (l : List Judged) (u : State), l = [] → applyAll l u = .goes u := fun l u e => e ▸ rfl
    rw [hd, State.transfer_still (by simp) hf] at ha
    cases (idle _ _ hw).symm.trans ha
    change (if ((s.settle.link.owed || (s.settle.still ([a, b, c, d] ++ f.fill)).owes) || false) = true then
      s.settle.time.tstamp.extractLsb' 16 16 else s.settle.time.hold) = _
    have howes := State.still_owes (s := s.settle) (fill := f.fill) hk hc
    rw [howes, Bool.or_false]
    refine if_congr ?_ rfl rfl
    rw [Bool.or_eq_true, decide_eq_true_iff]
    exact or_comm

end

end Sys2Proof.Machine

open Sys2Proof Sys2Proof.Machine

/-- Settles O35: the READ in flight through its boundary, at its rise, and in phase 1. -/
theorem readsAreSnapshots : Obligations.ReadsAreSnapshots := by
  refine ⟨fun f start count s u hr hu hf hd hc => ?_, fun f start count inTime q s s1 h => ?_,
    fun f start count inTime q s s1 hf hc h => ⟨fun hin => ?_, fun hin hd => ?_, fun n m inp hin hd hm => ?_⟩,
    fun f bytes q s s1 u hu hf hw hd hl hk hc h => ?_⟩
  · subst hu
    refine ⟨_, _, congrArg Host.Outcome.next (State.readBoundary_still hr hf hd hc), ?_, rfl, fun g q s1 hg hd' h => ?_⟩
    · simp only [State.readWords, State.captureHold, decide_eq_true_iff]
      exact List.map_congr_left fun r _ => (r.read_withLink { s.settle with time := { s.settle.time with hold := _ } } _).symm
    · obtain ⟨-, -, hq, -⟩ := h
      rw [hd', hg] at hq
      refine State.transfer_readInFlight (u := s.settle) ?_ rfl hq
      exact s.settle_tick
  · have hb : (f.tickAfter 4 inTime).tag = f.tag := by cases inTime <;> rfl
    have hbit : bit 8 (!q.snapped) = if q.snapped then 0 else 1 := by cases q.snapped <;> rfl
    refine congrArg Host.Outcome.next ((State.send_lands h).trans ?_)
    rw [judge_read]
    change s1.applyRead f.tag start count q.snapped = _
    unfold State.applyRead readResult
    rw [hbit]
    cases rangeCheck start count with
    | none => rfl
    | some r => rfl
  · obtain ⟨inp, rfl⟩ := Option.isSome_iff_exists.1 hin
    obtain ⟨hr, hdead, hq, -⟩ := h
    rw [State.transfer_fresh hf] at hq
    exact carry_snapshot (f := f) (s := s.settle.fall) s.settle_tick (s.settle_flies.lines.trans hr) rfl rfl hc hq hdead
  · subst hin
    obtain ⟨hr, hdead, hq, -⟩ := h
    rw [Frame.tickAfter, hd, State.transfer_still (by simp [readBytes, sealFrame]) hf] at hq
    cases hq
    exact ⟨rfl, (State.still_due hc).trans (by omega)⟩
  · subst hin
    obtain ⟨hr, hdead, hq, -⟩ := h
    rw [Frame.tickAfter, hd, State.transfer_fresh hf] at hq
    obtain ⟨hh, hw⟩ := carry_one_snapshot (s := s.settle.fall) s.settle_tick (s.settle_flies.lines.trans hr) rfl rfl rfl hc hm hq hdead
    exact ⟨hw, Flight.read_snapped hc hh hdead hw⟩
  · subst hu
    exact Lands.hold hf hw hd hl hk hc h

end

section
/-! SUPPORT. What a tick amounts to does not depend on where it stands: no item reads what is left of its tick. -/

namespace Sys2Proof.Machine

/-! ### The tick in progress apart from the rest -/

/-- The state with another tick in progress. -/
def State.withTick (s : State) (x : Option OpenTick) : State := { s with tick := x }

/-- What an item leads to, with another tick in progress; a reset has ended its tick (R15). -/
def Progress.withTick (x : Option OpenTick) : Progress → Progress
  | .goes t => .goes (t.withTick x)
  | .abandoned t => .abandoned t

section
variable {s : State} {x : Option OpenTick}

theorem State.occur_withTick (src : Source) (q : Option Word) :
    (s.withTick x).occur src q = (s.occur src q).withTick x := by
  cases h : s.arb.pend[src] with
  | none =>
    have h' : (s.withTick x).arb.pend[src] = none := h
    simp only [State.occur, h, h']
    rfl
  | some p =>
    have h' : (s.withTick x).arb.pend[src] = some p := h
    simp only [State.occur, h, h']
    rfl

theorem State.offer_withTick (b : RecBody) :
    (s.withTick x).offer b = ((s.offer b).1.withTick x, (s.offer b).2) := by
  have e : (s.withTick x).offer b =
      (if (s.journal.offer b).journal.crosses (s.journal.offer b).raised && s.effLevel jth != 0 then
        (({ s with journal := (s.journal.offer b).journal } : State).withTick x).occur jth none
      else ({ s with journal := (s.journal.offer b).journal } : State).withTick x, (s.journal.offer b).seq) := rfl
  rw [e, State.occur_withTick]
  unfold State.offer
  dsimp only
  refine Prod.ext ?_ rfl
  exact (apply_ite (State.withTick · x) _ _ _).symm

theorem State.record_withTick (b : RecBody) : (s.withTick x).record b = (s.record b).withTick x :=
  congrArg Prod.fst (State.offer_withTick b)

theorem State.addCause_withTick (c : Cause) (src : Option Source) :
    (s.withTick x).addCause c src = (s.addCause c src).withTick x := by
  unfold State.addCause
  change (if s.causes = 0 then _ else if s.causes &&& c.bits = 0 then _ else _) = _
  split
  · exact State.record_withTick (s := ({ s with causes := c.bits } : State).mapChans fun _ ch => ch.latchCause) _
  · split
    · exact State.record_withTick (s := { s with causes := s.causes ||| c.bits }) _
    · rfl

/-- The channels and Safe-Hold answer an assertion (R62, R99). -/
def State.reacted (s : State) (src : Source) (y : Contribution) : State :=
  if y.cls = .safe then (s.mapChans y.appearsOn).addCause .source (some src) else s.mapChans y.appearsOn

theorem State.reacted_withTick (src : Source) (y : Contribution) :
    (s.withTick x).reacted src y = (s.reacted src y).withTick x := by
  unfold State.reacted
  split
  · exact State.addCause_withTick (s := s.mapChans y.appearsOn) .source (some src)
  · rfl

/-- An assertion without its record. -/
theorem State.asserted_quiet (src : Source) (y : Contribution) : s.asserted src y false =
    if y.level = 0 then s.reacted src y else (s.reacted src y).occur src none := rfl

/-- An assertion with its record, whose seq its occurrence takes (R125, R128). -/
theorem State.asserted_recorded (src : Source) (y : Contribution) : s.asserted src y true =
    if y.level = 0 then
      (s.reacted src y).record ((s.reacted src y).assertBody src y.mask y.cls y.level none)
    else
      ((s.reacted src y).record ((s.reacted src y).assertBody src y.mask y.cls y.level none)).occur src
        ((s.reacted src y).offer ((s.reacted src y).assertBody src y.mask y.cls y.level none)).2 := rfl

theorem State.asserted_withTick (src : Source) (y : Contribution) (r : Bool) :
    (s.withTick x).asserted src y r = (s.asserted src y r).withTick x := by
  cases r with
  | false =>
    rw [State.asserted_quiet, State.asserted_quiet, State.reacted_withTick, State.occur_withTick]
    exact (apply_ite (State.withTick · x) _ _ _).symm
  | true =>
    have hb : ((s.reacted src y).withTick x).assertBody src y.mask y.cls y.level none =
        (s.reacted src y).assertBody src y.mask y.cls y.level none := rfl
    rw [State.asserted_recorded, State.asserted_recorded, State.reacted_withTick, hb, State.record_withTick,
      State.offer_withTick, State.occur_withTick]
    exact (apply_ite (State.withTick · x) _ _ _).symm

theorem State.dropped_withTick (src : Source) (y : Contribution) (a b : Bool) :
    (s.withTick x).dropped src y a b = (s.dropped src y a b).withTick x := by
  unfold State.dropped
  split
  · exact State.record_withTick _
  · rfl

/-! ### Phase 2 -/

theorem State.assertLine_withTick (k : LineNo) : (s.withTick x).assertLine k = (s.assertLine k).withTick x :=
  State.asserted_withTick (s := s.setLine k { s.lines[k] with
    cond := .asserted, contrib := some (s.capture (lineSrc k) (levelOf s.staging.actTab[lineSrc k].level)) }) _ _ _

theorem State.dropLine_withTick (k : LineNo) (a b : Bool) : (s.withTick x).dropLine k a b = (s.dropLine k a b).withTick x := by
  cases h : s.lines[k].contrib with
  | none =>
    have h' : (s.withTick x).lines[k].contrib = none := h
    simp only [State.dropLine, h, h']
    rfl
  | some y =>
    have h' : (s.withTick x).lines[k].contrib = some y := h
    simp only [State.dropLine, h, h']
    exact State.dropped_withTick (s := s.setLine k { s.lines[k] with cond := .idle, contrib := none }) _ _ _ _

theorem State.lineRaw_withTick (k : LineNo) (a : Bool) : (s.withTick x).lineRaw k a = (s.lineRaw k a).withTick x := by
  obtain ⟨c, e, h⟩ : ∃ c e, s.lines[k].cond.step s.lines[k].cfg.af s.lines[k].cfg.rf a = (c, e) := ⟨_, _, rfl⟩
  have h' : (s.withTick x).lines[k].cond.step (s.withTick x).lines[k].cfg.af (s.withTick x).lines[k].cfg.rf a = (c, e) := h
  cases e with
  | assertion =>
    simp only [State.lineRaw, h, h']
    exact State.assertLine_withTick k
  | clear =>
    simp only [State.lineRaw, h, h']
    exact State.dropLine_withTick k _ _
  | glitch | none =>
    simp only [State.lineRaw, h, h']
    rfl

theorem State.lineItem_withTick (k : LineNo) (level : Bool) :
    (s.withTick x).lineItem k level = (s.lineItem k level).withTick x := by
  unfold State.lineItem
  refine Eq.trans ?_ (apply_ite (State.withTick · x) _ _ _).symm
  exact if_congr Iff.rfl (State.lineRaw_withTick k _) rfl

theorem State.clearSup_withTick : (s.withTick x).clearSup = s.clearSup.withTick x := by
  cases h : s.sup.contrib with
  | none =>
    have h' : (s.withTick x).sup.contrib = none := h
    simp only [State.clearSup, h, h']
    rfl
  | some y =>
    have h' : (s.withTick x).sup.contrib = some y := h
    simp only [State.clearSup, h, h']
    exact State.dropped_withTick (s := { s with sup := ⟨.idle, none⟩ }) _ _ _ _

theorem State.supItem_withTick (low : Bool) : (s.withTick x).supItem low = (s.supItem low).withTick x := by
  obtain ⟨c, e, h⟩ : ∃ c e, s.sup.cond.step Config.supAssertLimit Config.supReleaseLimit low = (c, e) := ⟨_, _, rfl⟩
  have h' : (s.withTick x).sup.cond.step Config.supAssertLimit Config.supReleaseLimit low = (c, e) := h
  cases e with
  | assertion =>
    simp only [State.supItem, h, h']
    exact State.asserted_withTick (s := { s with sup := ⟨.asserted, some (s.capture supSrc 8)⟩ }) supSrc (s.capture supSrc 8) true
  | clear =>
    simp only [State.supItem, h, h']
    exact State.clearSup_withTick
  | glitch | none =>
    simp only [State.supItem, h, h']
    rfl

theorem State.safeInItem_withTick (level : Bool) : (s.withTick x).safeInItem level = (s.safeInItem level).withTick x := by
  obtain ⟨c, e, h⟩ : ∃ c e, s.safeIn.step Config.safeInLimit Config.safeInLimit (!level) = (c, e) := ⟨_, _, rfl⟩
  have h' : (s.withTick x).safeIn.step Config.safeInLimit Config.safeInLimit (!level) = (c, e) := h
  cases e with
  | assertion =>
    simp only [State.safeInItem, h, h']
    exact State.addCause_withTick (s := { s with safeIn := .asserted }) _ _
  | clear | glitch | none =>
    simp only [State.safeInItem, h, h']
    rfl

/-- A reset ends the tick, wherever it stood (R15). -/
theorem State.protReset_withTick (why : ProtCause) : (s.withTick x).protReset why = s.protReset why := rfl

theorem State.raised_withTick (src : Source) (c : Cause) : (s.withTick x).raised src c = (s.raised src c).withTick x := by
  have hb : ((s.addCause c none).withTick x).assertBody src 0xF .safe (((s.addCause c none).withTick x).effLevel src) none =
      (s.addCause c none).assertBody src 0xF .safe ((s.addCause c none).effLevel src) none := rfl
  unfold State.raised
  dsimp only
  rw [State.addCause_withTick, hb, State.offer_withTick, State.occur_withTick]

theorem State.raiseHard_withTick (src : Source) (c : Cause) (other : Source) :
    (s.withTick x).raiseHard src c other = (s.raiseHard src c other).withTick x := by
  rw [State.raiseHard_eq, State.raiseHard_eq, State.raised_withTick]
  have hu : ((s.raised src c).withTick x).unserved other = (s.raised src c).unserved other := rfl
  rw [hu]
  cases (s.raised src c).unserved other <;> rfl

theorem State.clearHard_withTick (src : Source) : (s.withTick x).clearHard src = (s.clearHard src).withTick x :=
  State.record_withTick _

theorem State.wdgItem_withTick : (s.withTick x).wdgItem = s.wdgItem.withTick x := by
  have he : (s.withTick x).wdg.expires = s.wdg.expires := rfl
  cases h : s.wdg.st with
  | off =>
    have h' : (s.withTick x).wdg.st = .off := h
    simp only [State.wdgItem, h, h']
    rfl
  | closed =>
    have h' : (s.withTick x).wdg.st = .closed := h
    simp only [State.wdgItem, h, h', he]
    cases s.wdg.expires <;> rfl
  | lapsed =>
    have h' : (s.withTick x).wdg.st = .lapsed := h
    simp only [State.wdgItem, h, h', he]
    cases s.wdg.expires <;> rfl
  | opened =>
    have h' : (s.withTick x).wdg.st = .opened := h
    simp only [State.wdgItem, h, h', he]
    cases s.wdg.expires with
    | false => rfl
    | true =>
      exact congrArg Progress.goes (State.asserted_withTick (s := { s with wdg := { s.wdg with
        st := .lapsed, timer := 0, length := s.wdg.ow, fresh := false, lnk := some (s.capture lnkSrc 9) } })
        lnkSrc (s.capture lnkSrc 9) true)

theorem State.scrubPassEnd_withTick : (s.withTick x).scrubPassEnd = s.scrubPassEnd.withTick x := by
  rw [State.scrubPassEnd_eq, State.scrubPassEnd_eq, apply_ite (Progress.withTick x), apply_ite (Progress.withTick x),
    apply_ite (Progress.withTick x)]
  refine if_congr Iff.rfl (if_congr Iff.rfl ?_ rfl) (if_congr Iff.rfl rfl ?_)
  · exact congrArg Progress.goes (State.clearHard_withTick (s := s.nextPass false) tblSrc)
  · exact State.raiseHard_withTick (s := s.nextPass true) _ _ _

theorem State.scrubItem_withTick : (s.withTick x).scrubItem = s.scrubItem.withTick x := by
  unfold State.scrubItem State.scrubRead
  rw [apply_ite (Progress.withTick x), apply_ite (Progress.withTick x), apply_dite (Progress.withTick x)]
  refine if_congr Iff.rfl (if_congr Iff.rfl rfl ?_) rfl
  exact dite_congr rfl (fun _ => rfl) fun _ => State.scrubPassEnd_withTick

/-- Two parts of a tick that do not read what is left of it. -/
theorem Progress.bind_withTick {p : Progress} {f : State → Progress} (hf : ∀ t : State, f (t.withTick x) = (f t).withTick x) :
    (p.withTick x).bind f = (p.bind f).withTick x := by
  cases p with
  | goes t => exact hf t
  | abandoned t => rfl

theorem State.handOff_withTick (o : HandOff) : (s.withTick x).handOff o = (s.handOff o).withTick x := by
  cases o with
  | raise => exact State.raiseHard_withTick (s := { s with clk := { s.clk with cond := true, toRef := false } }) _ _ _
  | clear =>
    exact congrArg Progress.goes
      (State.clearHard_withTick (s := { s with clk := { s.clk with cond := false, toRef := true } }) _)

theorem handOffsFrom_withTick (l : List HandOff) : ∀ s : State, handOffsFrom l (s.withTick x) = (handOffsFrom l s).withTick x := by
  induction l with
  | nil => exact fun _ => rfl
  | cons o rest ih =>
    intro s
    have h := State.handOff_withTick (s := { s with clk := { s.clk with handOffs := rest } }) (x := x) o
    exact (congrArg (Progress.bind · (handOffsFrom rest)) h).trans (Progress.bind_withTick ih)

theorem State.clkItem_withTick : (s.withTick x).clkItem = s.clkItem.withTick x :=
  handOffsFrom_withTick _ { s with clk := { s.clk with seen := s.clk.mon } }

/-! ### Phases 3 and 4 -/

theorem State.noteOn_withTick (k : Channel) (r : Option RecKind) : (s.withTick x).noteOn k r = (s.noteOn k r).withTick x := by
  cases r with
  | none => rfl
  | some kind => exact State.record_withTick _

theorem State.markChan_withTick (k : Channel) : (s.withTick x).markChan k = (s.markChan k).withTick x := by
  rw [State.markChan_eq, State.markChan_eq]
  exact State.noteOn_withTick (s := s.setChan k _) k _

theorem State.starveChan_withTick (k : Channel) : (s.withTick x).starveChan k = (s.starveChan k).withTick x := by
  rw [State.starveChan_eq, State.starveChan_eq]
  exact State.noteOn_withTick (s := s.setChan k _) k _

theorem State.chanItem_withTick (k : Channel) (m : Bool) : (s.withTick x).chanItem k m = (s.chanItem k m).withTick x := by
  cases m with
  | false => exact State.starveChan_withTick k
  | true => exact (congrArg (State.starveChan · k) (State.markChan_withTick k)).trans (State.starveChan_withTick k)

theorem State.discardOne_withTick (src : Source) : (s.withTick x).discardOne src = (s.discardOne src).withTick x := by
  have hc : ((s.withTick x).isPending src && (s.withTick x).effLevel src == 0) = (s.isPending src && s.effLevel src == 0) := rfl
  unfold State.discardOne
  rw [hc]
  cases s.isPending src && s.effLevel src == 0 <;> rfl

theorem discards_withTick (l : List Source) : ∀ s : State,
    l.foldl State.discardOne (s.withTick x) = (l.foldl State.discardOne s).withTick x := by
  induction l with
  | nil => exact fun _ => rfl
  | cons src rest ih =>
    intro s
    rw [List.foldl_cons, List.foldl_cons, State.discardOne_withTick, ih]

theorem State.tableCommitted_withTick : (s.withTick x).tableCommitted = s.tableCommitted.withTick x := by
  have e : (s.withTick x).restarted = s.restarted.withTick x := by
    unfold State.restarted State.withTick
    rfl
  rw [State.tableCommitted_fold, State.tableCommitted_fold, e, discards_withTick]

theorem State.copyScope_withTick (scope : Scope) : (s.withTick x).copyScope scope = (s.copyScope scope).withTick x := by
  cases scope <;> rfl

theorem State.applyCommit_withTick (scope : Scope) : (s.withTick x).applyCommit scope = (s.applyCommit scope).withTick x := by
  cases scope with
  | table =>
    have hr : ∀ u : State, u.applyCommit .table = (u.copyScope .table).tableCommitted.record
        ((u.copyScope .table).tableCommitted.plainBody (.commitApplied .table) none 0) := fun _ => rfl
    rw [hr, hr, State.copyScope_withTick, State.tableCommitted_withTick]
    generalize (s.copyScope .table).tableCommitted = u
    exact State.record_withTick _
  | channel k => exact State.record_withTick (s := s.copyScope (.channel k)) _

theorem State.commitItem_withTick (scope : Scope) (k : Channel) :
    (s.withTick x).commitItem scope k = (s.commitItem scope k).withTick x := by
  have h : (s.withTick x).applyArmed scope = (s.applyArmed scope).withTick x := by
    have e : (s.withTick x).disarm scope = (s.disarm scope).withTick x := by cases scope <;> rfl
    unfold State.applyArmed
    rw [e, State.applyCommit_withTick]
  unfold State.commitItem
  refine Eq.trans (if_congr Iff.rfl h rfl) (apply_ite (State.withTick · x) _ _ _).symm

/-! ### The tick -/

/-- No item reads what is left of its tick. -/
theorem State.runItem_withTick (s : State) (inp : Samples) (i : Item) :
    (s.withTick x).runItem inp i = (s.runItem inp i).withTick x := by
  cases i with
  | line k => exact congrArg Progress.goes (State.lineItem_withTick k _)
  | sup => exact congrArg Progress.goes (State.supItem_withTick _)
  | safeIn => exact congrArg Progress.goes (State.safeInItem_withTick _)
  | wdg => exact State.wdgItem_withTick
  | scrub => exact State.scrubItem_withTick
  | clk => exact State.clkItem_withTick
  | chan k => exact congrArg Progress.goes (State.chanItem_withTick k _)
  | keepMarks => rfl
  | commitTable k => exact congrArg Progress.goes (State.commitItem_withTick .table k)
  | commitChannel k => exact congrArg Progress.goes (State.commitItem_withTick (.channel k) k)
  | outputs => rfl
  | irq => rfl
  | holdoff => rfl

theorem runItems_withTick (inp : Samples) (l : List Item) : ∀ s : State,
    runItems inp l (s.withTick x) = (runItems inp l s).withTick x := by
  induction l with
  | nil => exact fun _ => rfl
  | cons i rest ih =>
    intro s
    unfold runItems
    rw [State.runItem_withTick]
    exact Progress.bind_withTick ih

/-! ### An event and its tick -/

/-- What a tick in progress amounts to (R13, R15). -/
theorem State.settle_open {u : OpenTick} (h : s.tick = some u) :
    s.settle = ((runItems u.inp u.left s).bind fun t => .goes (t.endTick u.inp)).st := by
  unfold State.settle
  rw [h]

/-- What is left of a tick, run from another place, amounts to the same. -/
theorem State.settle_withTick (s : State) (inp : Samples) (l : List Item) :
    (s.withTick (some ⟨inp, l⟩)).settle = ((runItems inp l s).bind fun t => .goes (t.endTick inp)).st := by
  rw [State.settle_open (u := ⟨inp, l⟩) rfl]
  dsimp only
  rw [runItems_withTick]
  cases runItems inp l s <;> rfl

/-- The state that an item finds stands in its tick: the rest of the tick makes of it what the whole makes of the state before. -/
theorem runTo_settle {i : Item} {inp : Samples} (l : List Item) : ∀ {s u : State}, runTo i inp l s = some u →
    ∃ v rest, u = v.withTick (some ⟨inp, i :: rest⟩) ∧ runItems inp l s = runItems inp (i :: rest) v := by
  induction l with
  | nil => exact fun h => by cases h
  | cons j rest ih =>
    intro s u h
    unfold runTo at h
    split at h
    · rename_i hj
      subst hj
      cases h
      exact ⟨s, rest, rfl, rfl⟩
    · cases hr : s.runItem inp j with
      | abandoned t => simp [hr] at h
      | goes t =>
        rw [hr] at h
        obtain ⟨v, left, hu, e⟩ := ih h
        refine ⟨v, left, hu, ?_⟩
        rw [← e]
        exact congrArg (Progress.bind · (runItems inp rest)) hr

/-- The item that runs next leaves a tick that amounts to the same (R13, R14). -/
theorem State.runNext_settle (v : State) (inp : Samples) (i : Item) (rest : List Item) :
    (v.withTick (some ⟨inp, i :: rest⟩)).runNext.settle = ((runItems inp (i :: rest) v).bind fun t => .goes (t.endTick inp)).st := by
  have hn : (v.withTick (some ⟨inp, i :: rest⟩)).runNext = ((v.withTick (some ⟨inp, rest⟩)).runItem inp i).st := rfl
  have htick := v.runItem_tick inp i
  rw [hn, State.runItem_withTick]
  unfold runItems
  cases hr : v.runItem inp i with
  | goes t => exact t.settle_withTick inp rest
  | abandoned t =>
    rw [hr] at htick
    cases htick with
    | abandoned h => exact t.settle_idle h

/-- An event in a tick leaves a tick that amounts to the same (R13, R14). -/
theorem State.meets_settle {w : Option Samples} {e : Event} {u : State} (h : s.meets w e = some u) :
    u.runNext.settle = (s.tickFor w).settle := by
  have hreach : s.reach w e.item = some u := (Option.filter_eq_some_iff.1 h).1
  unfold State.reach at hreach
  dsimp only at hreach
  cases ht : (s.tickFor w).tick with
  | none => simp [ht] at hreach
  | some o =>
    rw [ht] at hreach
    obtain ⟨v, rest, rfl, hr⟩ := runTo_settle _ hreach
    rw [State.runNext_settle, State.settle_open ht, hr]

/-- An event leaves the state, the tick in progress, or the tick it begins, as it amounts to (R13, R14; log entries 5, 16, 23). -/
theorem State.event_settle (s : State) (e : Event) :
    s.event e = s ∨ (s.event e).settle = s.settle ∨ (s.event e).settle = s.wholeTick (s.driven e) := by
  cases hr : s.inReset with
  | true => exact .inl (if_pos hr)
  | false =>
    unfold State.event
    rw [if_neg (by simp [hr])]
    cases hm : s.meets none e with
    | some u => exact .inr (.inl (State.meets_settle hm))
    | none =>
      cases hn : s.meets (some (s.driven e)) e with
      | some u =>
        refine .inr (.inr ((State.meets_settle hn).trans ?_))
        unfold State.wholeTick
        rw [if_neg (by simp [hr])]
        rfl
      | none => exact .inl rfl

/-- While a POR or PIN lasts no tick runs (R170). -/
theorem exec_event_inReset {c : Instr} {e : Event} (h : eventOf c = some e) (hr : s.inReset = true) : exec c s = .next s :=
  (exec_eventOf h s).trans (congrArg Host.Outcome.next (if_pos hr))

/-- While a POR or PIN lasts the link does not respond (R168). -/
theorem exec_frame_inReset {c : Instr} {f : Frame} {bytes : List Byte} (h : frameOf c = some (f, bytes))
    (hr : s.inReset = true) : exec c s = .next s :=
  (exec_frameOf h s).trans (congrArg Host.Outcome.next (if_pos hr))

end

end Sys2Proof.Machine

open Sys2Proof Sys2Proof.Machine

/-- Settles O30: what an event leaves of its tick, and each command while a reset lasts. -/
theorem nothingRunsInResetOrOutOfOrder : Obligations.NothingRunsInResetOrOutOfOrder := by
  refine ⟨fun c e s t hc ht => ?_, fun c e s hc h g => ?_, fun c s hr => ?_⟩
  · obtain rfl := Host.Outcome.next.inj ((exec_eventOf hc s).symm.trans ht)
    obtain h | h | h := s.event_settle e
    · exact .inl h
    · exact .inr (.inl h)
    · exact .inr (.inr (congrArg Host.Outcome.next h.symm))
  · exact (exec_eventOf hc s).trans (congrArg Host.Outcome.next (State.event_none h g))
  · cases c with
    | por | pinReset | resetRelease _ | pwmInputEdge _ _ _ | refclkMissing | refclkReturn | refclkLostAgain
      | refclkGoodPeriod | clockRecovered => trivial
    | tick _ | frameError _ _ | readSnapshot _ _ => exact congrArg Host.Outcome.next (if_pos hr)
    | holdoffExpire | lineAssert _ | lineClear _ | supAssert | supClear | safeInActive | safeInInactive | mark _
      | escalatePersist _ | escalateStarved _ | armedCommitApply _ | scrubRead | scrubPassEnd | clkRaise | clkClear
      | windowOpen | lateViolation | secondLapse => exact exec_event_inReset rfl hr
    | _ => exact exec_frame_inReset rfl hr

end

section
/-! SUPPORT. Phase 2 of a tick: what its assertions make of the channels and the cause set together, and what each item leaves. -/

namespace Sys2Proof.Machine

/-! ### The channels and the cause set -/

/-- Two channels that phase 3 and every later reader tell apart by nothing: the entered-CYCLE indication counts in CYCLE alone
(R71). -/
structure Chan.Alike (p c : Chan) : Prop where
  st : p.st = c.st
  persist : p.persist = c.persist
  timer : p.timer = c.timer
  ind : p.ind = c.ind
  pulse : p.pulse = c.pulse
  markSeen : p.markSeen = c.markSeen
  entered : c.st = .cycle → p.enteredCycle = c.enteredCycle

/-- A channel after the latch and cycle causes that appear on it in one phase, in whatever order (R62-R66). -/
def Chan.hit (latch cycle : Prop) [Decidable latch] [Decidable cycle] (c : Chan) : Chan :=
  if latch then c.latchCause else if cycle then c.cycleCause else c

theorem Chan.Alike.refl (c : Chan) : c.Alike c := ⟨rfl, rfl, rfl, rfl, rfl, rfl, fun _ => rfl⟩

theorem Chan.hit_congr {l l' y y' : Prop} [Decidable l] [Decidable l'] [Decidable y] [Decidable y'] (hl : l ↔ l') (hy : y ↔ y')
    (c : Chan) : c.hit l y = c.hit l' y' :=
  if_congr hl rfl (if_congr hy rfl rfl)

theorem Chan.Alike.trans {p c d : Chan} (h : p.Alike c) (g : c.Alike d) : p.Alike d :=
  ⟨h.st.trans g.st, h.persist.trans g.persist, h.timer.trans g.timer, h.ind.trans g.ind, h.pulse.trans g.pulse,
    h.markSeen.trans g.markSeen, fun hd => (h.entered (g.st.trans hd)).trans (g.entered hd)⟩

theorem Chan.Alike.latchCause {p c : Chan} (h : p.Alike c) : p.latchCause.Alike c.latchCause := by
  unfold Chan.latchCause
  rw [h.st]
  split
  · exact h
  · exact ⟨rfl, rfl, rfl, by simp only [h.ind], h.pulse, h.markSeen, fun e => by cases e⟩

theorem Chan.Alike.cycleCause {p c : Chan} (h : p.Alike c) : p.cycleCause.Alike c.cycleCause := by
  unfold Chan.cycleCause
  rw [h.st]
  split
  · exact ⟨rfl, rfl, rfl, h.ind, h.pulse, h.markSeen, fun _ => rfl⟩
  · exact h

theorem Chan.latchCause_latchCause (c : Chan) : c.latchCause.latchCause = c.latchCause := if_pos c.latchCause_st

theorem Chan.cycleCause_latchCause (c : Chan) : c.latchCause.cycleCause = c.latchCause :=
  if_neg (by rw [c.latchCause_st]; decide)

theorem Chan.cycleCause_cycleCause (c : Chan) : c.cycleCause.cycleCause = c.cycleCause := by
  refine if_neg ?_
  rw [c.cycleCause_st]
  split <;> simp [*]

/-- A latch cause ends what came before it (R64). -/
theorem Chan.latchCause_cycleCause (c : Chan) : c.cycleCause.latchCause.Alike c.latchCause := by
  unfold Chan.cycleCause
  split
  · rename_i h
    simp only [Chan.latchCause, Chan.enterCycle, h]
    exact ⟨rfl, rfl, rfl, rfl, rfl, rfl, fun e => by cases e⟩
  · exact .refl _

/-- More causes on a channel that others have come to (R66). -/
theorem Chan.hit_hit (l y l' y' : Prop) [Decidable l] [Decidable y] [Decidable l'] [Decidable y'] (c : Chan) :
    ((c.hit l y).hit l' y').Alike (c.hit (l ∨ l') (y ∨ y')) := by
  unfold Chan.hit
  by_cases hl' : l'
  · rw [if_pos hl', if_pos (Or.inr hl' : l ∨ l')]
    split
    · rw [c.latchCause_latchCause]
      exact .refl _
    · split
      · exact c.latchCause_cycleCause
      · exact .refl _
  · rw [if_neg hl', if_congr (or_iff_left hl' : l ∨ l' ↔ l) rfl rfl]
    by_cases hy' : y'
    · rw [if_pos hy', if_pos (Or.inr hy' : y ∨ y')]
      split
      · rw [c.cycleCause_latchCause]
        exact .refl _
      · split
        · rw [c.cycleCause_cycleCause]
          exact .refl _
        · exact .refl _
    · rw [if_neg hy', if_congr (or_iff_left hy' : y ∨ y' ↔ y) rfl rfl]
      exact .refl _

theorem Chan.Alike.hit {p c : Chan} (h : p.Alike c) (l y : Prop) [Decidable l] [Decidable y] : (p.hit l y).Alike (c.hit l y) := by
  unfold Chan.hit
  split
  · exact h.latchCause
  · split
    · exact h.cycleCause
    · exact h

/-- What the assertions of a phase, and SAFE_IN's, make of the channels and the cause set together (R62-R66, R98-R100). -/
structure Reacts (xs : List Contribution) (input : Bool) (s u : State) : Prop where
  causes : u.causes = s.causes ||| (if ∃ x ∈ xs, x.cls = .safe then 0x02 else 0) ||| (if input then 0x20 else 0)
  chans : ∀ k : Channel, u.chans[k].Alike (s.chans[k].hit
    ((s.causes = 0 ∧ u.causes ≠ 0) ∨ ∃ x ∈ xs, x.cls = .latch ∧ x.mask.getLsbD k.val = true)
    (∃ x ∈ xs, x.cls = .cycle ∧ x.mask.getLsbD k.val = true))

/-- A channel after an assertion, as the causes that appear (Table 2-3). -/
theorem trippedTo_hit (causes : BitVec 6) (x : Contribution) (k : Channel) (c : Chan) :
    trippedTo causes x k c = c.hit ((x.cls = .safe ∧ causes = 0) ∨ (x.cls = .latch ∧ x.mask.getLsbD k.val = true))
      (x.cls = .cycle ∧ x.mask.getLsbD k.val = true) := by
  unfold trippedTo Chan.hit
  rw [latchEntry_eq, cycleEntry_eq, ite_or]

section
variable {s u t : State} {xs : List Contribution} {b : Bool}

theorem Reacts.refl (s : State) : Reacts [] false s s :=
  ⟨by simp, fun k => by simp only [List.not_mem_nil, false_and, exists_false, or_false, and_not_self, Chan.hit, if_false]; exact .refl _⟩

theorem Reacts.kept (h : Reacts xs b s u) (hc : t.causes = u.causes) (hk : t.chans = u.chans) : Reacts xs b s t :=
  ⟨hc.trans h.causes, fun k => by rw [hc, hk]; exact h.chans k⟩

/-- The set of causes only grows (R98). -/
theorem Reacts.grows (h : Reacts xs b s u) (hu : u.causes = 0) : s.causes = 0 := by
  have zero : ∀ (a : BitVec 6) (p q : Bool), a ||| (if p then 0x02 else 0) ||| (if q then 0x20 else 0) = 0 → a = 0 := by
    decide
  refine zero s.causes (decide (∃ x ∈ xs, x.cls = .safe)) b ?_
  simp only [decide_eq_true_iff]
  exact h.causes.symm.trans hu

/-- Safe-Hold entered, or a latch cause, once a further assertion has acted: `a` it was not entered before the phase, `z` not
yet before this assertion, `f` the assertion adds a cause, `l` it is a latch cause (R65, R99). -/
theorem latched_or {a z f e l : Prop} (h : z → a) : ((a ∧ ¬ z) ∨ e) ∨ ((f ∧ z) ∨ l) ↔ (a ∧ (¬ z ∨ f)) ∨ (e ∨ l) := by
  by_cases hz : z
  · simp only [hz, h hz]
    tauto
  · simp only [hz]
    tauto

/-- One assertion more (Table 2-3). -/
theorem Reacts.asserts {x : Contribution} (h : Reacts xs b s u)
    (hc : t.causes = if x.cls = .safe then u.causes ||| 0x02 else u.causes)
    (hk : ∀ k : Channel, t.chans[k] = trippedTo u.causes x k u.chans[k]) : Reacts (xs ++ [x]) b s t := by
  have more : ∀ p : Contribution → Prop, (∃ y ∈ xs ++ [x], p y) ↔ (∃ y ∈ xs, p y) ∨ p x := fun p => by
    simp [or_and_right, exists_or]
  have ht : t.causes ≠ 0 ↔ u.causes ≠ 0 ∨ x.cls = .safe := by
    rw [hc]
    split
    · have joined : ∀ a : BitVec 6, a ||| 0x02 ≠ 0 := by decide
      exact ⟨fun _ => .inr ‹_›, fun _ => joined _⟩
    · exact (or_iff_left ‹_›).symm
  refine ⟨?_, fun k => ?_⟩
  · have join : ∀ (a : BitVec 6) (p q r : Bool), (if r then (a ||| (if p then 0x02 else 0) ||| (if q then 0x20 else 0)) ||| 0x02
        else a ||| (if p then 0x02 else 0) ||| (if q then 0x20 else 0)) =
        a ||| (if p || r then 0x02 else 0) ||| (if q then 0x20 else 0) := by decide
    have hj := join s.causes (decide (∃ y ∈ xs, y.cls = .safe)) b (decide (x.cls = .safe))
    simp only [decide_eq_true_iff, Bool.or_eq_true] at hj
    rw [hc, h.causes, hj]
    exact congrArg (s.causes ||| · ||| _) (if_congr (more _).symm rfl rfl)
  · rw [hk, trippedTo_hit]
    refine (((h.chans k).hit _ _).trans (Chan.hit_hit _ _ _ _ _)).trans ?_
    refine cast (congrArg (Chan.Alike _) (Chan.hit_congr ?_ ?_ _)) (.refl _)
    · rw [ht, more]
      exact latched_or h.grows
    · exact (more _).symm

/-- SAFE_IN's activation among the assertions (R34, R98-R100). -/
theorem Reacts.enters (h : Reacts xs false s u) (hc : t.causes = u.causes ||| 0x20)
    (hk : ∀ k : Channel, t.chans[k] = if u.causes = 0 then u.chans[k].latchCause else u.chans[k]) : Reacts xs true s t := by
  have joined : ∀ a : BitVec 6, a ||| 0x20 ≠ 0 := by decide
  have ht : t.causes ≠ 0 := hc ▸ joined _
  refine ⟨?_, fun k => ?_⟩
  · rw [hc, h.causes]
    simp
  · have hh : t.chans[k] = u.chans[k].hit (u.causes = 0) False := by
      rw [hk]
      exact (if_congr Iff.rfl rfl (if_neg id)).symm
    rw [hh]
    refine (((h.chans k).hit _ _).trans (Chan.hit_hit _ _ _ _ _)).trans ?_
    refine cast (congrArg (Chan.Alike _) (Chan.hit_congr ?_ (iff_of_eq (or_false _)) _)) (.refl _)
    have e := latched_or (f := True) (e := ∃ x ∈ xs, x.cls = .latch ∧ x.mask.getLsbD k.val = true) (l := False) h.grows
    simp only [true_and, or_false, or_true, and_true] at e
    exact e.trans (or_congr (and_iff_left ht).symm Iff.rfl)

end

/-! ### What an item of phase 2 leaves -/

/-- `u` is `s` but for the blocks that phase 2 may change (R14). -/
def Phase2 (s u : State) : Prop :=
  u = { s with
    clk := u.clk, lines := u.lines, sup := u.sup, safeIn := u.safeIn, scrub := u.scrub, chans := u.chans, causes := u.causes
    journal := u.journal, arb := { s.arb with pend := u.arb.pend }, wdg := u.wdg }

section
variable {s u t : State}

theorem Phase2.trans (h : Phase2 s u) (g : Phase2 u t) : Phase2 s t := by
  unfold Phase2 at h g ⊢
  rw [h] at g
  exact g

/-- What an assertion event leaves among the blocks of phase 2 (R29). -/
theorem State.asserted_phase2 (s : State) (src : Source) (x : Contribution) (r : Bool) : Phase2 s (s.asserted src x r) := by
  have e := s.asserted_eq src x r
  generalize s.asserted src x r = t at e
  unfold Phase2
  rw [e]

/-- What an assertion event makes of the cause set and of the channels (R29). -/
theorem State.asserted_reacts (s : State) (src : Source) (x : Contribution) (r : Bool) :
    (s.asserted src x r).causes = (if x.cls = .safe then s.causes ||| 0x02 else s.causes) ∧
    ∀ k : Channel, (s.asserted src x r).chans[k] = trippedTo s.causes x k s.chans[k] :=
  ⟨s.asserted_causes src x r, fun k => (s.asserted_chan src x r k).trans (trippedTo_eq x k s.causes _)⟩

/-- Line k after its item (R20-R26, R29, R31). -/
def State.lineAfter (s : State) (k : LineNo) (inp : Samples) : Line :=
  { s.lines[k] with
    cond := if s.lines[k].cfg.enable then
        (s.lines[k].cond.step s.lines[k].cfg.af s.lines[k].cfg.rf (s.lines[k].cfg.rawActive (inp.fin.getLsbD k.val))).1
      else s.lines[k].cond
    contrib := heldAfter (s.lineEvent k inp)
      ⟨s.staging.actTab[lineSrc k].cls, s.staging.actTab[lineSrc k].mask, levelOf s.staging.actTab[lineSrc k].level⟩
      s.lines[k].contrib
    glitch := if s.lineEvent k inp = .glitch then satInc s.lines[k].glitch else s.lines[k].glitch }

/-- The contribution that line k asserts on these samples, if it does (R29). -/
def State.lineAsserts (s : State) (k : LineNo) (inp : Samples) : List Contribution :=
  if s.lineEvent k inp = .assertion then [s.capture (lineSrc k) (levelOf s.staging.actTab[lineSrc k].level)] else []

theorem Cond.step_assertion {c d : Cond} {af rf : Byte} {a : Bool} (h : c.step af rf a = (d, .assertion)) : d = .asserted := by
  revert h
  unfold Cond.step
  (repeat' split) <;> simp [eq_comm]

theorem Cond.step_clear {c d : Cond} {af rf : Byte} {a : Bool} (h : c.step af rf a = (d, .clear)) : d = .idle := by
  revert h
  unfold Cond.step
  (repeat' split) <;> simp [eq_comm]

/-- Line k after its item, by the transition of its conditioner (Table 2-2). -/
theorem State.lineAfter_step {s : State} {k : LineNo} {inp : Samples} {c : Cond} {e : CondEvent}
    (he : s.lines[k].cfg.enable = true)
    (h : s.lines[k].cond.step s.lines[k].cfg.af s.lines[k].cfg.rf (s.lines[k].cfg.rawActive (inp.fin.getLsbD k.val)) = (c, e)) :
    s.lineEvent k inp = e ∧ s.lineAfter k inp = { s.lines[k] with
      cond := c
      contrib := heldAfter e (s.capture (lineSrc k) (levelOf s.staging.actTab[lineSrc k].level)) s.lines[k].contrib
      glitch := if e = .glitch then satInc s.lines[k].glitch else s.lines[k].glitch } := by
  have hev : s.lineEvent k inp = e := (State.lineEvent_enabled he).trans (congrArg Prod.snd h)
  refine ⟨hev, ?_⟩
  unfold State.lineAfter
  rw [hev, if_pos he, h]
  rfl

theorem State.lineAfter_off {s : State} {k : LineNo} (inp : Samples) (he : s.lines[k].cfg.enable = false) :
    s.lineEvent k inp = .none ∧ s.lineAfter k inp = s.lines[k] := by
  have hev : s.lineEvent k inp = .none := if_neg (Bool.eq_false_iff.1 he)
  refine ⟨hev, ?_⟩
  unfold State.lineAfter
  rw [hev, if_neg (Bool.eq_false_iff.1 he)]
  rfl

/-- Line k's item (R20-R26, R29, R31). -/
theorem State.lineItem_spec (s : State) (k : LineNo) (inp : Samples) :
    s.lineItem k (inp.fin.getLsbD k.val) = { s with
      lines := s.lines.set k.val (s.lineAfter k inp) k.isLt
      chans := (s.lineItem k (inp.fin.getLsbD k.val)).chans, causes := (s.lineItem k (inp.fin.getLsbD k.val)).causes
      journal := (s.lineItem k (inp.fin.getLsbD k.val)).journal
      arb := { s.arb with pend := (s.lineItem k (inp.fin.getLsbD k.val)).arb.pend } } ∧
    ∀ {xs b r}, Reacts xs b r s → Reacts (xs ++ s.lineAsserts k inp) b r (s.lineItem k (inp.fin.getLsbD k.val)) := by
  cases he : s.lines[k].cfg.enable with
  | false =>
    obtain ⟨hev, hl⟩ := State.lineAfter_off inp he
    have hi : s.lineItem k (inp.fin.getLsbD k.val) = s := if_neg (Bool.eq_false_iff.1 he)
    rw [hi, hl]
    refine ⟨?_, fun h => ?_⟩
    · simp
    · rw [State.lineAsserts, hev, if_neg (by decide), List.append_nil]
      exact h
  | true =>
    obtain ⟨c, e, h⟩ : ∃ c e, s.lines[k].cond.step s.lines[k].cfg.af s.lines[k].cfg.rf
        (s.lines[k].cfg.rawActive (inp.fin.getLsbD k.val)) = (c, e) := ⟨_, _, rfl⟩
    obtain ⟨hev, hl⟩ := State.lineAfter_step he h
    rw [State.lineItem_enabled he, hl, State.lineAsserts, hev]
    cases e with
    | assertion =>
      obtain rfl := Cond.step_assertion h
      rw [State.lineRaw_asserts h, State.assertLine_eq]
      refine ⟨State.asserted_eq _ _ _ _, fun h => ?_⟩
      obtain ⟨hc, hk⟩ := State.asserted_reacts (s.setLine k { s.lines[k] with
        cond := .asserted, contrib := some (s.capture (lineSrc k) (levelOf s.staging.actTab[lineSrc k].level)) })
        (lineSrc k) (s.capture (lineSrc k) (levelOf s.staging.actTab[lineSrc k].level)) s.staging.actTab[lineSrc k].record
      exact h.asserts hc hk
    | clear =>
      obtain rfl := Cond.step_clear h
      rw [State.lineRaw_clears h]
      have e := s.dropLine_eq k s.lines[k].cfg.recordClear false
      have hc := congrArg State.causes e
      have hk := congrArg State.chans e
      have hj := congrArg State.journal e
      refine ⟨e.trans ?_, fun h => ?_⟩
      · rw [hc, hk, hj]
        rfl
      · rw [if_neg (by decide), List.append_nil]
        exact h.kept hc hk
    | glitch | none =>
      unfold State.lineRaw
      simp only [h]
      refine ⟨rfl, fun h => ?_⟩
      rw [if_neg (by decide), List.append_nil]
      exact h.kept rfl rfl

theorem State.lineAfter_congr {k : LineNo} (hl : t.lines[k] = s.lines[k]) (hg : t.staging = s.staging) (inp : Samples) :
    t.lineAfter k inp = s.lineAfter k inp ∧ t.lineAsserts k inp = s.lineAsserts k inp := by
  have he : t.lineEvent k inp = s.lineEvent k inp := by
    unfold State.lineEvent
    rw [hl]
  unfold State.lineAfter State.lineAsserts State.capture
  rw [he, hl, hg]
  exact ⟨rfl, rfl⟩

/-- `u` is `s` but for the blocks that the items of the lines may change. -/
def LinesOnly (s u : State) : Prop :=
  u = { s with
    lines := u.lines, chans := u.chans, causes := u.causes, journal := u.journal
    arb := { s.arb with pend := u.arb.pend } }

theorem LinesOnly.trans (h : LinesOnly s u) (g : LinesOnly u t) : LinesOnly s t := by
  unfold LinesOnly at h g ⊢
  rw [h] at g
  exact g

/-- The items of some lines (R14, R20-R31). -/
def runLines (inp : Samples) (ks : List LineNo) (s : State) : State :=
  ks.foldl (fun u k => u.lineItem k (inp.fin.getLsbD k.val)) s

theorem runItems_lines (inp : Samples) (ks : List LineNo) (rest : List Item) : ∀ s : State,
    runItems inp (ks.map .line ++ rest) s = runItems inp rest (runLines inp ks s) := by
  induction ks with
  | nil => exact fun _ => rfl
  | cons k ks ih => exact fun s => ih _

theorem runLines_spec (inp : Samples) (ks : List LineNo) : ∀ {s : State}, ks.Nodup →
    LinesOnly s (runLines inp ks s) ∧
    (∀ k : LineNo, (runLines inp ks s).lines[k] = if k ∈ ks then s.lineAfter k inp else s.lines[k]) ∧
    ∀ {xs b r}, Reacts xs b r s → Reacts (xs ++ ks.flatMap (s.lineAsserts · inp)) b r (runLines inp ks s) := by
  induction ks with
  | nil => exact fun {s} _ => ⟨rfl, fun k => rfl, fun h => by rwa [List.flatMap_nil, List.append_nil]⟩
  | cons k ks ih =>
    intro s hn
    obtain ⟨hk, hks⟩ := List.nodup_cons.1 hn
    obtain ⟨hs, hr⟩ := s.lineItem_spec k inp
    generalize hu : s.lineItem k (inp.fin.getLsbD k.val) = u at hs hr
    have hrun : runLines inp (k :: ks) s = runLines inp ks u := by rw [← hu]; rfl
    have hg : u.staging = s.staging := by rw [hs]
    have hl : u.lines = s.lines.set k.val (s.lineAfter k inp) k.isLt := by
      have e := congrArg State.lines hs
      exact e
    have hne : ∀ j : LineNo, j ≠ k → u.lines[j] = s.lines[j] := fun j hj => by
      rw [hl]
      exact Vector.getElem_set_ne _ _ fun e => hj (Fin.ext e.symm)
    obtain ⟨h1, h2, h3⟩ := ih (s := u) hks
    have ho : LinesOnly s u := by
      unfold LinesOnly
      rw [hl]
      exact hs
    rw [hrun]
    refine ⟨ho.trans h1, fun j => ?_, fun h => ?_⟩
    · rw [h2]
      by_cases hj : j = k
      · subst hj
        rw [if_neg hk, if_pos List.mem_cons_self, hl]
        exact Vector.getElem_set_self _
      · rw [(State.lineAfter_congr (hne j hj) hg inp).1, hne j hj]
        exact if_congr (by simp [hj]) rfl rfl
    · have e : ks.flatMap (u.lineAsserts · inp) = ks.flatMap (s.lineAsserts · inp) :=
        List.flatMap_congr fun j hj => (State.lineAfter_congr (hne j fun e => hk (e ▸ hj)) hg inp).2
      rw [List.flatMap_cons, ← List.append_assoc, ← e]
      exact h3 (hr h)

theorem State.clearSup_eq (s : State) :
    s.clearSup = { s with
      sup := ⟨.idle, none⟩, journal := s.clearSup.journal, arb := { s.arb with pend := s.clearSup.arb.pend } } := by
  cases h : s.sup.contrib with
  | none =>
    have e : s.clearSup = { s with sup := ⟨.idle, none⟩ } := by
      unfold State.clearSup
      simp only [h]
    rw [e]
  | some x =>
    rw [State.clearSup_held h]
    exact State.record_blocks _ _

/-- SUP's item (R32, R33). -/
theorem State.supItem_spec (s : State) (inp : Samples) :
    s.supItem inp.supLow = { s with
      sup := ⟨(s.sup.cond.step 15 255 inp.supLow).1, heldAfter (s.supEvent inp) (s.capture supSrc 8) s.sup.contrib⟩
      chans := (s.supItem inp.supLow).chans, causes := (s.supItem inp.supLow).causes
      journal := (s.supItem inp.supLow).journal, arb := { s.arb with pend := (s.supItem inp.supLow).arb.pend } } ∧
    ∀ {xs b r}, Reacts xs b r s →
      Reacts (xs ++ if s.supEvent inp = .assertion then [s.capture supSrc 8] else []) b r (s.supItem inp.supLow) := by
  obtain ⟨c, e, h⟩ : ∃ c e, s.sup.cond.step 15 255 inp.supLow = (c, e) := ⟨_, _, rfl⟩
  have hev : s.supEvent inp = e := congrArg Prod.snd h
  rw [hev, h]
  cases e with
  | assertion =>
    obtain rfl := Cond.step_assertion h
    rw [State.supItem_asserts h]
    refine ⟨State.asserted_eq { s with sup := ⟨.asserted, some (s.capture supSrc 8)⟩ } supSrc (s.capture supSrc 8) true,
      fun h => ?_⟩
    obtain ⟨hc, hk⟩ := State.asserted_reacts { s with sup := ⟨.asserted, some (s.capture supSrc 8)⟩ } supSrc
      (s.capture supSrc 8) true
    exact h.asserts hc hk
  | clear =>
    obtain rfl := Cond.step_clear h
    have e := s.clearSup_eq
    have hc := congrArg State.causes e
    have hk := congrArg State.chans e
    rw [State.supItem_clears h]
    refine ⟨?_, fun h => ?_⟩
    · rw [hc, hk]
      exact e
    · rw [if_neg (by decide), List.append_nil]
      exact h.kept hc hk
  | glitch | none =>
    have hi : s.supItem inp.supLow = { s with sup := { s.sup with cond := c } } := by
      unfold State.supItem
      simp only [Config.supAssertLimit, Config.supReleaseLimit, h]
    rw [hi]
    refine ⟨rfl, fun h => ?_⟩
    rw [if_neg (by decide), List.append_nil]
    exact h.kept rfl rfl

/-- SAFE_IN's item (R34, R98). -/
theorem State.safeInItem_spec (s : State) (inp : Samples) :
    s.safeInItem inp.safeIn = { s with
      safeIn := (s.safeIn.step 7 7 (!inp.safeIn)).1
      chans := (s.safeInItem inp.safeIn).chans, causes := (s.safeInItem inp.safeIn).causes
      journal := (s.safeInItem inp.safeIn).journal
      arb := { s.arb with pend := (s.safeInItem inp.safeIn).arb.pend } } ∧
    ∀ {xs r}, Reacts xs false r s →
      Reacts xs (decide (s.safeInEvent inp = .assertion)) r (s.safeInItem inp.safeIn) := by
  obtain ⟨c, e, h⟩ : ∃ c e, s.safeIn.step 7 7 (!inp.safeIn) = (c, e) := ⟨_, _, rfl⟩
  have hev : s.safeInEvent inp = e := congrArg Prod.snd h
  rw [hev, h]
  cases e with
  | assertion =>
    obtain rfl := Cond.step_assertion h
    rw [State.safeInItem_asserts h]
    have hc := State.addCause_causes { s with safeIn := .asserted } .input none
    refine ⟨?_, fun h => ?_⟩
    · rw [hc]
      exact State.addCause_eq { s with safeIn := .asserted } .input none
    · exact h.enters (State.addCause_causes _ _ _) fun k => State.addCause_chan _ _ _ k
  | clear | glitch | none =>
    have hi : s.safeInItem inp.safeIn = { s with safeIn := c } := by
      unfold State.safeInItem
      simp only [Config.safeInLimit, h]
    rw [hi]
    exact ⟨rfl, fun h => h.kept rfl rfl⟩

/-- The supervisor after its item outside LAPSED (R150, R152). -/
def State.wdgAfter (s : State) : Watchdog :=
  match s.wdg.st with
  | .off => s.wdg
  | .closed =>
    if s.wdg.length.toNat * 1024 ≤ s.wdg.timerNow then
      { s.wdg with st := .opened, timer := 0, length := s.wdg.ow, fresh := false }
    else { s.wdg with timer := s.wdg.timerNow, fresh := false }
  | .opened =>
    if s.wdg.length.toNat * 1024 ≤ s.wdg.timerNow then
      { s.wdg with
        st := .lapsed, timer := 0, length := s.wdg.ow, fresh := false, lnk := some (s.capture lnkSrc 9) }
    else { s.wdg with timer := s.wdg.timerNow, fresh := false }
  | .lapsed => s.wdg

/-- LNK's contribution, if the open window ends (R152). -/
def State.lnkAsserts (s : State) : List Contribution :=
  if s.wdg.st = .opened ∧ s.wdg.expires = true then [s.capture lnkSrc 9] else []

theorem State.wdgAfter_counts {s : State} (hst : s.wdg.st = .closed ∨ s.wdg.st = .opened) (he : s.wdg.expires = false) :
    s.wdgItem = .goes { s with wdg := { s.wdg with timer := s.wdg.timerNow, fresh := false } } ∧
    s.wdgAfter = { s.wdg with timer := s.wdg.timerNow, fresh := false } := by
  have hn : ¬ s.wdg.length.toNat * 1024 ≤ s.wdg.timerNow := fun h => by simp [(Watchdog.expires_iff s.wdg).2 h] at he
  unfold State.wdgItem State.wdgAfter
  rw [he, if_neg hn, if_neg hn]
  rcases hst with hst | hst
  · rw [hst]
    exact ⟨rfl, rfl⟩
  · rw [hst]
    exact ⟨rfl, rfl⟩

/-- The supervisor's item outside LAPSED (R150, R152). -/
theorem State.wdgItem_spec (s : State) (h : s.wdg.st ≠ .lapsed) :
    ∃ t, s.wdgItem = .goes t ∧
      t = { s with
        wdg := s.wdgAfter, chans := t.chans, causes := t.causes, journal := t.journal
        arb := { s.arb with pend := t.arb.pend } } ∧
      ∀ {xs b r}, Reacts xs b r s → Reacts (xs ++ s.lnkAsserts) b r t := by
  by_cases ho : s.wdg.st = .opened ∧ s.wdg.expires = true
  · obtain ⟨hst, he⟩ := ho
    have hw : s.wdgAfter = { s.wdg with
        st := .lapsed, timer := 0, length := s.wdg.ow, fresh := false, lnk := some (s.capture lnkSrc 9) } := by
      unfold State.wdgAfter
      rw [if_pos ((Watchdog.expires_iff s.wdg).1 he), if_pos ((Watchdog.expires_iff s.wdg).1 he), hst]
    refine ⟨_, State.wdgItem_lapses hst he, ?_, fun hr => ?_⟩
    · rw [hw]
      exact State.asserted_eq _ _ _ _
    · obtain ⟨hc, hk⟩ := State.asserted_reacts { s with wdg := { s.wdg with
        st := .lapsed, timer := 0, length := s.wdg.ow, fresh := false, lnk := some (s.capture lnkSrc 9) } }
        lnkSrc (s.capture lnkSrc 9) true
      rw [State.lnkAsserts, if_pos ⟨hst, he⟩]
      exact hr.asserts hc hk
  · have hi : s.wdgItem = .goes { s with wdg := s.wdgAfter } := by
      cases he : s.wdg.expires with
      | false =>
        cases hst : s.wdg.st with
        | lapsed => exact absurd hst h
        | off =>
          unfold State.wdgItem State.wdgAfter
          rw [hst]
        | closed | opened =>
          obtain ⟨hi, hw⟩ := State.wdgAfter_counts (s := s) (by simp [hst]) he
          rw [hi, hw]
      | true =>
        cases hst : s.wdg.st with
        | lapsed => exact absurd hst h
        | opened => exact absurd ⟨hst, he⟩ ho
        | off =>
          unfold State.wdgItem State.wdgAfter
          rw [hst]
        | closed =>
          rw [State.wdgItem_opens hst he]
          unfold State.wdgAfter
          rw [if_pos ((Watchdog.expires_iff s.wdg).1 he), hst]
    refine ⟨_, hi, rfl, fun hr => ?_⟩
    rw [State.lnkAsserts, if_neg ho, List.append_nil]
    exact hr.kept rfl rfl

/-- The scrubber after an item that reads no entry (R54). -/
def State.scrubAfter (s : State) : Scrubber :=
  if s.staging.tableValid then { s.scrub with pacing := s.scrub.pacing + 1 } else s.scrub

theorem State.scrubItem_paces (s : State) (h : s.staging.tableValid = false ∨ s.scrub.pacing.val < 63) :
    s.scrubItem = .goes { s with scrub := s.scrubAfter } := by
  unfold State.scrubItem State.scrubAfter
  cases hv : s.staging.tableValid with
  | false => rfl
  | true =>
    have hp : s.scrub.pacing.val < Config.scrubLastPace := h.resolve_left (by simp [hv])
    rw [if_pos hp]
    rfl

theorem State.clkItem_idle (s : State) (h : s.clk.handOffs = []) :
    s.clkItem = .goes { s with clk := { s.clk with seen := s.clk.mon } } := by
  unfold State.clkItem
  rw [h]
  rfl

/-! ### Phase 2 -/

/-- What phase 2 leaves where no reset can arise in it and nothing awaits the monitor's item (R14). -/
structure AfterPhase2 (inp : Samples) (s u : State) : Prop where
  blocks : Phase2 s u
  lines : ∀ k : LineNo, u.lines[k] = s.lineAfter k inp
  sup : u.sup = ⟨(s.sup.cond.step 15 255 inp.supLow).1, heldAfter (s.supEvent inp) (s.capture supSrc 8) s.sup.contrib⟩
  safeIn : u.safeIn = (s.safeIn.step 7 7 (!inp.safeIn)).1
  wdg : u.wdg = s.wdgAfter
  scrub : u.scrub = s.scrubAfter
  clk : u.clk = { s.clk with seen := s.clk.mon }
  reacts : Reacts (s.assertedIn inp) (decide (s.safeInEvent inp = .assertion)) s u

theorem State.assertedIn_eq (s : State) (inp : Samples) :
    s.assertedIn inp = allLines.flatMap (s.lineAsserts · inp) ++
      (if s.supEvent inp = .assertion then [s.capture supSrc 8] else []) ++ s.lnkAsserts := by
  unfold State.assertedIn State.lnkAsserts
  rw [List.filterMap_eq_flatMap_toList]
  refine congrArg (· ++ _ ++ _) (List.flatMap_congr fun k _ => ?_)
  unfold State.lineAsserts
  split <;> rfl

/-- The conditioners' part of phase 2 (R14, R20-R34). -/
theorem State.conditioners (s : State) (inp : Samples) (rest : List Item) :
    ∃ u, runItems inp (allLines.map .line ++ .sup :: .safeIn :: rest) s = runItems inp rest u ∧ Phase2 s u ∧
      (u.wdg = s.wdg ∧ u.scrub = s.scrub ∧ u.clk = s.clk) ∧ (∀ k : LineNo, u.lines[k] = s.lineAfter k inp) ∧
      u.sup = ⟨(s.sup.cond.step 15 255 inp.supLow).1, heldAfter (s.supEvent inp) (s.capture supSrc 8) s.sup.contrib⟩ ∧
      u.safeIn = (s.safeIn.step 7 7 (!inp.safeIn)).1 ∧
      Reacts (allLines.flatMap (s.lineAsserts · inp) ++ if s.supEvent inp = .assertion then [s.capture supSrc 8] else [])
        (decide (s.safeInEvent inp = .assertion)) s u := by
  obtain ⟨h1, hl, r1⟩ := runLines_spec inp allLines (s := s) (by decide)
  have run1 := runItems_lines inp allLines (Item.sup :: .safeIn :: rest) s
  generalize runLines inp allLines s = u1 at h1 hl r1 run1
  have sup1 : u1.sup = s.sup := by rw [h1]
  have cap1 : u1.capture supSrc 8 = s.capture supSrc 8 := by unfold State.capture; rw [h1]
  have e1 : u1.supEvent inp = s.supEvent inp := by unfold State.supEvent; rw [sup1]
  obtain ⟨h2, r2⟩ := u1.supItem_spec inp
  have run2 : runItems inp (Item.sup :: .safeIn :: rest) u1 = runItems inp (Item.safeIn :: rest) (u1.supItem inp.supLow) := rfl
  rw [sup1, e1, cap1] at h2
  rw [e1, cap1] at r2
  generalize u1.supItem inp.supLow = u2 at h2 r2 run2
  have safe2 : u2.safeIn = s.safeIn := by rw [h2, h1]
  have e2 : u2.safeInEvent inp = s.safeInEvent inp := by unfold State.safeInEvent; rw [safe2]
  obtain ⟨h3, r3⟩ := u2.safeInItem_spec inp
  have run3 : runItems inp (Item.safeIn :: rest) u2 = runItems inp rest (u2.safeInItem inp.safeIn) := rfl
  rw [safe2] at h3
  rw [e2] at r3
  generalize u2.safeInItem inp.safeIn = u3 at h3 r3 run3
  have p1 : Phase2 s u1 := by unfold Phase2; rw [h1]
  have p2 : Phase2 u1 u2 := by unfold Phase2; rw [h2]
  have p3 : Phase2 u2 u3 := by unfold Phase2; rw [h3]
  have lines3 : u3.lines = u1.lines := by rw [h3, h2]
  refine ⟨u3, run1.trans (run2.trans run3), (p1.trans p2).trans p3, ⟨by rw [h3, h2, h1], by rw [h3, h2, h1], by rw [h3, h2, h1]⟩,
    fun k => ?_, by rw [h3, h2], by rw [h3], r3 (r2 (r1 (.refl s)))⟩
  rw [lines3, hl, if_pos (mem_allLines k)]

/-- Phase 2 (R14). -/
theorem State.phase2 (s : State) (inp : Samples) (rest : List Item) (hw : s.wdg.st ≠ .lapsed)
    (hs : s.staging.tableValid = false ∨ s.scrub.pacing.val < 63) (hc : s.clk.handOffs = []) :
    ∃ u, runItems inp (phase2Items ++ rest) s = runItems inp rest u ∧ AfterPhase2 inp s u := by
  obtain ⟨u3, run3, p3, ⟨wdg3, scrub3, clk3⟩, lines3, sup3, safeIn3, r3⟩ :=
    s.conditioners inp (Item.wdg :: .scrub :: .clk :: rest)
  have staging3 : u3.staging = s.staging := by unfold Phase2 at p3; rw [p3]
  have after3 : u3.wdgAfter = s.wdgAfter ∧ u3.lnkAsserts = s.lnkAsserts := by
    unfold State.wdgAfter State.lnkAsserts State.capture
    rw [wdg3, staging3]
    exact ⟨rfl, rfl⟩
  obtain ⟨u4, run4, h4, r4⟩ := u3.wdgItem_spec (by rw [wdg3]; exact hw)
  rw [after3.1] at h4
  rw [after3.2] at r4
  have p4 : Phase2 u3 u4 := by unfold Phase2; rw [h4]
  have staging4 : u4.staging = s.staging := by rw [h4]; exact staging3
  have scrub4 : u4.scrub = s.scrub := by rw [h4]; exact scrub3
  have clk4 : u4.clk = s.clk := by rw [h4]; exact clk3
  have run5 := u4.scrubItem_paces (by rw [staging4, scrub4]; exact hs)
  have after4 : u4.scrubAfter = s.scrubAfter := by unfold State.scrubAfter; rw [staging4, scrub4]
  obtain ⟨u5, h5⟩ : ∃ u, u = { u4 with scrub := u4.scrubAfter } := ⟨_, rfl⟩
  rw [← h5] at run5
  rw [after4] at h5
  have p5 : Phase2 u4 u5 := by unfold Phase2; rw [h5]
  have clk5 : u5.clk = s.clk := by rw [h5]; exact clk4
  have run6 := u5.clkItem_idle (by rw [clk5]; exact hc)
  rw [clk5] at run6
  have p6 : Phase2 u5 { u5 with clk := { s.clk with seen := s.clk.mon } } := rfl
  have lines5 : u5.lines = u3.lines := by rw [h5, h4]
  have sup5 : u5.sup = u3.sup := by rw [h5, h4]
  have safeIn5 : u5.safeIn = u3.safeIn := by rw [h5, h4]
  have wdg5 : u5.wdg = s.wdgAfter := by rw [h5, h4]
  have r5 := (r4 r3).kept (t := u5) (by rw [h5]) (by rw [h5])
  refine ⟨_, ?_, ((p3.trans p4).trans p5).trans p6, fun k => ?_, sup5.trans sup3, safeIn5.trans safeIn3, wdg5, ?_, rfl, ?_⟩
  · have e : phase2Items ++ rest = allLines.map .line ++ (Item.sup :: .safeIn :: .wdg :: .scrub :: .clk :: rest) := by
      simp [phase2Items]
    have e4 : runItems inp (Item.wdg :: .scrub :: .clk :: rest) u3 = runItems inp (Item.scrub :: .clk :: rest) u4 :=
      congrArg (Progress.bind · _) run4
    have e5 : runItems inp (Item.scrub :: .clk :: rest) u4 = runItems inp (Item.clk :: rest) u5 :=
      congrArg (Progress.bind · _) run5
    rw [e, run3, e4, e5]
    exact congrArg (Progress.bind · _) run6
  · change u5.lines[k] = _
    rw [lines5, lines3]
  · change u5.scrub = _
    rw [h5]
  · rw [State.assertedIn_eq]
    exact r5.kept rfl rfl

end

end Sys2Proof.Machine

end

section
/-! SUPPORT. Phases 3 to 5 of a tick: every channel's turn, the armed commits, and the end. -/

namespace Sys2Proof.Machine

/-! ### One channel -/

section
variable {p : Chan} {cfg : ChanCfg}

theorem Chan.turn_marked (p : Chan) (cfg : ChanCfg) (present : Bool) : p.turn cfg true present = p.marked cfg present :=
  (Chan.marked_starveEnd p cfg present).1

theorem Chan.turn_unmarked (p : Chan) (cfg : ChanCfg) (present : Bool) : p.turn cfg false present = p.starveEnd cfg := rfl

/-- The starvation check of a channel outside CYCLE (R71). -/
theorem Chan.starveEnd_still (h : p.st ≠ .cycle) : p.starveEnd cfg = p := by
  have ht : p.timed = p := if_neg (by simp [Chan.starving, h])
  unfold Chan.starveEnd
  rw [ht]
  exact if_neg (by simp [Chan.starved, h])

/-- The starvation check of a channel in CYCLE without its mark (R71, R72). -/
theorem Chan.starveEnd_cycle (h : p.st = .cycle) (hm : p.markSeen = false) {n : BitVec 20}
    (hn : n = if p.enteredCycle then p.timer else satInc p.timer) :
    p.starveEnd cfg = if cfg.mt ≠ 0 ∧ cfg.mt.toNat * 16 ≤ n.toNat then
      { p with st := .latched, persist := 0, timer := 0 } else { p with timer := n } := by
  have ht : p.timed = { p with timer := n } := by
    have hv : p.starving = !p.enteredCycle := by simp [Chan.starving, h, hm]
    unfold Chan.timed
    rw [hv, hn]
    by_cases he : p.enteredCycle = true
    · rw [if_neg (by simp [he]), if_pos he]
    · rw [if_pos (by simpa using he), if_neg he]
  have hs : p.timed.starved cfg = true ↔ cfg.mt ≠ 0 ∧ cfg.mt.toNat * 16 ≤ n.toNat := by
    have h0 : 0 < cfg.mt.toNat ↔ cfg.mt ≠ 0 := by
      rw [Nat.pos_iff_ne_zero, ne_eq, ne_eq, ← BitVec.toNat_inj]
      rfl
    rw [ht]
    unfold Chan.starved Config.timeoutUnit
    simp only [h, beq_self_eq_true, Bool.and_true, Bool.and_eq_true, decide_eq_true_iff, h0]
  have hl : ({ p with timer := n } : Chan).latchCause = { p with st := .latched, persist := 0, timer := 0 } := by
    unfold Chan.latchCause
    simp [h]
  unfold Chan.starveEnd
  rw [if_congr hs rfl rfl, ht, hl]

/-- A channel's turn: the indication of its mark, and the pulse, which ends at it (R67). -/
theorem Chan.turn_seen (hm : p.markSeen = false) (mark present : Bool) :
    (p.turn cfg mark present).markSeen = mark ∧ (p.turn cfg mark present).pulse = (p.pulse && !mark) := by
  cases mark with
  | true =>
    obtain ⟨h1, h2⟩ := p.marked_pulse cfg present
    rw [Chan.turn_marked, h1, h2]
    simp
  | false =>
    rw [Chan.turn_unmarked]
    by_cases h : p.st = .cycle
    · obtain ⟨n, hn⟩ : ∃ n, n = if p.enteredCycle then p.timer else satInc p.timer := ⟨_, rfl⟩
      rw [Chan.starveEnd_cycle h hm hn]
      split <;> simp [hm]
    · rw [Chan.starveEnd_still h]
      simp [hm]

/-- The mark of a channel in CYCLE (R68, R69). -/
theorem Chan.marked_cycle (h : p.st = .cycle) (present : Bool) :
    (p.marked cfg present).ind = p.ind ∧
    ((p.marked cfg present).st, (p.marked cfg present).persist, (p.marked cfg present).timer) =
      if present = false then (.normal, 0, 0)
      else if cfg.ec ≠ 0 ∧ cfg.ec.toNat ≤ (satInc p.persist).toNat then (.latched, 0, 0)
      else (.cycle, satInc p.persist, 0) := by
  cases present with
  | false =>
    rw [(Chan.marked_released h).1]
    exact ⟨rfl, rfl⟩
  | true =>
    rw [if_neg (by decide), if_congr Chan.reaches_iff.symm rfl rfl]
    cases hr : p.reaches cfg with
    | true =>
      rw [(Chan.marked_escalates h hr).1]
      exact ⟨rfl, rfl⟩
    | false =>
      rw [(Chan.marked_survives h hr).1, h]
      exact ⟨rfl, rfl⟩

/-- The mark of a channel in CLEARING (R70). -/
theorem Chan.marked_clearing (h : p.st = .clearing) (present : Bool) :
    (p.marked cfg present).ind = .none ∧
    ((p.marked cfg present).st, (p.marked cfg present).persist, (p.marked cfg present).timer) =
      if present then (.cycle, 0, 0) else (.normal, p.persist, p.timer) := by
  unfold Chan.marked
  rw [h]
  cases present <;> exact ⟨rfl, rfl⟩

/-- A channel's turn in phase 3, by its state when the phase begins (R67-R72). -/
theorem Chan.turn_cases {c u : Chan} {mark present : Bool} (ha : p.Alike c) (hm : c.markSeen = false)
    (hu : u = { p.turn cfg mark present with markSeen := false, enteredCycle := false }) :
    (c.st = .normal ∨ c.st = .latched → (u.st, u.persist, u.timer, u.ind) = (c.st, c.persist, c.timer, c.ind)) ∧
    (c.st = .cycle → mark = true → u.ind = c.ind ∧
      (u.st, u.persist, u.timer) =
        if present = false then (.normal, 0, 0)
        else if cfg.ec ≠ 0 ∧ cfg.ec.toNat ≤ (satInc c.persist).toNat then (.latched, 0, 0)
        else (.cycle, satInc c.persist, 0)) ∧
    (c.st = .clearing → mark = true → u.ind = .none ∧
      (u.st, u.persist, u.timer) = if present then (.cycle, 0, 0) else (.normal, c.persist, c.timer)) ∧
    (c.st = .clearing → mark = false →
      (u.st, u.persist, u.timer, u.ind) = (.clearing, c.persist, c.timer, c.ind)) ∧
    (c.st = .cycle → mark = false → u.ind = c.ind ∧
      ∀ n, n = (if c.enteredCycle then c.timer else satInc c.timer) →
        (u.st, u.persist, u.timer) =
          if cfg.mt ≠ 0 ∧ cfg.mt.toNat * 16 ≤ n.toNat then (.latched, 0, 0) else (.cycle, c.persist, n)) := by
  subst hu
  rw [← ha.st, ← ha.persist, ← ha.timer, ← ha.ind]
  have hm' : p.markSeen = false := ha.markSeen.trans hm
  refine ⟨fun h => ?_, fun h hk => ?_, fun h hk => ?_, fun h hk => ?_, fun h hk => ?_⟩
  · cases mark with
    | true =>
      rw [Chan.turn_marked, (Chan.marked_still present h).1]
    | false =>
      rw [Chan.turn_unmarked, Chan.starveEnd_still (by rcases h with h | h <;> simp [h])]
  · subst hk
    rw [Chan.turn_marked]
    exact Chan.marked_cycle h present
  · subst hk
    rw [Chan.turn_marked]
    exact Chan.marked_clearing h present
  · subst hk
    rw [Chan.turn_unmarked, Chan.starveEnd_still (by simp [h]), h]
  · subst hk
    obtain ⟨n, hn⟩ : ∃ n, n = if c.enteredCycle then p.timer else satInc p.timer := ⟨_, rfl⟩
    have hn' : n = if p.enteredCycle then p.timer else satInc p.timer := by
      rw [ha.entered (ha.st.symm.trans h)]
      exact hn
    rw [Chan.turn_unmarked, Chan.starveEnd_cycle h hm' hn']
    refine ⟨by split <;> rfl, fun m e => ?_⟩
    obtain rfl : m = n := e.trans hn.symm
    split
    · rfl
    · rw [h]

end

/-! ### Phase 3 -/

section
variable {s u t : State}

/-- `u` is `s` but for the blocks that the channels' turns may change. -/
def ChansOnly (s u : State) : Prop :=
  u = { s with chans := u.chans, journal := u.journal, arb := { s.arb with pend := u.arb.pend } }

theorem ChansOnly.trans (h : ChansOnly s u) (g : ChansOnly u t) : ChansOnly s t := by
  unfold ChansOnly at h g ⊢
  rw [h] at g
  exact g

theorem State.chanItem_only (s : State) (k : Channel) (mark : Bool) : ChansOnly s (s.chanItem k mark) := by
  cases mark with
  | true =>
    obtain ⟨h, -, -, -, hj⟩ := State.setChan_noteOn _ _ _ _ (State.chanItem_marked s k)
    rw [← hj] at h
    exact h
  | false =>
    obtain ⟨h, -, -, -, hj⟩ := State.setChan_noteOn _ _ _ _ (State.chanItem_unmarked s k)
    rw [← hj] at h
    exact h

/-- What a channel's turn reads outside the channel (R12, R67). -/
theorem ChansOnly.reads (h : ChansOnly s u) (k : Channel) (wm : BitVec 4) :
    u.hasMark k wm = s.hasMark k wm ∧ u.heldOn .cycle k = s.heldOn .cycle k ∧ u.staging = s.staging := by
  unfold ChansOnly at h
  rw [h]
  exact ⟨rfl, rfl, rfl⟩

/-- The turns of some channels (R13). -/
def runChans (inp : Samples) (ks : List Channel) (s : State) : State :=
  ks.foldl (fun u k => u.chanItem k (u.hasMark k inp.wm)) s

theorem runItems_chans (inp : Samples) (ks : List Channel) (rest : List Item) : ∀ s : State,
    runItems inp (ks.map .chan ++ rest) s = runItems inp rest (runChans inp ks s) := by
  induction ks with
  | nil => exact fun _ => rfl
  | cons k ks ih => exact fun s => ih _

/-- Channel k after its turn in phase 3 of a tick on these samples. -/
def State.turnOf (s : State) (inp : Samples) (k : Channel) : Chan :=
  s.chans[k].turn s.staging.actCh[k] (s.hasMark k inp.wm) (s.heldOn .cycle k)

theorem runChans_spec (inp : Samples) (ks : List Channel) : ∀ {s : State}, ks.Nodup →
    ChansOnly s (runChans inp ks s) ∧
    ∀ k : Channel, (runChans inp ks s).chans[k] = if k ∈ ks then s.turnOf inp k else s.chans[k] := by
  induction ks with
  | nil => exact fun {s} _ => ⟨rfl, fun k => rfl⟩
  | cons k ks ih =>
    intro s hn
    obtain ⟨hk, hks⟩ := List.nodup_cons.1 hn
    have ho := s.chanItem_only k (s.hasMark k inp.wm)
    have hc : (s.chanItem k (s.hasMark k inp.wm)).chans[k] = s.turnOf inp k := State.chanItem_chan s k _
    have hne : ∀ j : Channel, j ≠ k → (s.chanItem k (s.hasMark k inp.wm)).chans[j] = s.chans[j] :=
      fun j hj => State.chanItem_chan_ne s _ hj
    have hrun : runChans inp (k :: ks) s = runChans inp ks (s.chanItem k (s.hasMark k inp.wm)) := rfl
    generalize s.chanItem k (s.hasMark k inp.wm) = u at ho hc hne hrun
    obtain ⟨h1, h2⟩ := ih (s := u) hks
    rw [hrun]
    refine ⟨ho.trans h1, fun j => ?_⟩
    rw [h2]
    by_cases hj : j = k
    · subst hj
      rw [if_neg hk, if_pos List.mem_cons_self, hc]
    · obtain ⟨e1, e2, e3⟩ := ho.reads j inp.wm
      have et : u.turnOf inp j = s.turnOf inp j := by
        unfold State.turnOf
        rw [e1, e2, e3, hne j hj]
      rw [et, hne j hj]
      exact if_congr (by simp [hj]) rfl rfl

/-- What phase 3 leaves (R13, R67-R72). -/
structure AfterPhase3 (inp : Samples) (s u : State) : Prop where
  blocks : u = { s with
    time := { s.time with wmPrev := some inp.wm }, chans := u.chans, journal := u.journal
    arb := { s.arb with pend := u.arb.pend } }
  chans : ∀ k : Channel, u.chans[k] = s.turnOf inp k

theorem State.phase3 (s : State) (inp : Samples) (rest : List Item) :
    ∃ u, runItems inp (phase3Items ++ rest) s = runItems inp rest u ∧ AfterPhase3 inp s u := by
  obtain ⟨h, hc⟩ := runChans_spec inp allChannels (s := s) (by decide)
  have run := runItems_chans inp allChannels (Item.keepMarks :: rest) s
  generalize runChans inp allChannels s = v at h hc run
  have e : phase3Items ++ rest = allChannels.map .chan ++ (Item.keepMarks :: rest) := by simp [phase3Items]
  refine ⟨v.keepMarks inp.wm, e ▸ run, ?_, fun k => ?_⟩
  · unfold ChansOnly at h
    rw [h]
    rfl
  · have hk : k ∈ allChannels := by revert k; decide
    exact (hc k).trans (if_pos hk)

end

/-! ### Phase 4 -/

section
variable {s u t : State}

/-- `u` is `s` but for the blocks that armed commits may change. -/
def CommitsOnly (s u : State) : Prop :=
  u = { s with
    staging := u.staging, scrub := u.scrub, journal := u.journal, arb := { s.arb with pend := u.arb.pend }
    counters := u.counters }

theorem CommitsOnly.trans (h : CommitsOnly s u) (g : CommitsOnly u t) : CommitsOnly s t := by
  unfold CommitsOnly at h g ⊢
  rw [h] at g
  exact g

/-- What a TABLE commit applied in phase 4, or none, leaves (R45, R47, R50). -/
structure TableStep (applied : Bool) (s u : State) : Prop where
  armedTable : u.staging.armedTable = if applied then none else s.staging.armedTable
  actTab : u.staging.actTab = if applied then s.staging.shTab else s.staging.actTab
  tableValid : u.staging.tableValid = (s.staging.tableValid || applied)
  scrub : u.scrub = if applied then ⟨0, 0, 0xFFFF, crc16 (tableWords s.staging.shTab), s.scrub.tblCond⟩ else s.scrub
  counters : applied = false → u.counters = s.counters

/-- What the CHANNEL commits applied in phase 4 leave (R45, R47). -/
structure ChannelStep (applied : Channel → Bool) (s u : State) : Prop where
  armedCh : ∀ k : Channel, u.staging.armedCh.getLsbD k.val = (s.staging.armedCh.getLsbD k.val && !applied k)
  actCh : ∀ k : Channel, u.staging.actCh[k] = if applied k then s.staging.shCh[k] else s.staging.actCh[k]

/-- The shadow copies and LOCKED, which no commit changes (R45). -/
structure ShadowKept (s u : State) : Prop where
  shTab : u.staging.shTab = s.staging.shTab
  shCh : u.staging.shCh = s.staging.shCh
  locked : u.staging.locked = s.staging.locked

theorem ShadowKept.trans (h : ShadowKept s u) (g : ShadowKept u t) : ShadowKept s t :=
  ⟨g.shTab.trans h.shTab, g.shCh.trans h.shCh, g.locked.trans h.locked⟩

/-- What the marks of some channels commit (R47). -/
structure Commits (ks : List Channel) (s u : State) : Prop where
  only : CommitsOnly s u
  shadow : ShadowKept s u
  table : ∀ a : Bool, (a = true ↔ ∃ m ∈ ks, s.staging.armedTable = some m ∧ s.chans[m].markSeen = true) → TableStep a s u
  channel : ChannelStep (fun k => decide (k ∈ ks) && (s.staging.armedCh.getLsbD k.val && s.chans[k].markSeen)) s u

theorem CommitsOnly.refl (s : State) : CommitsOnly s s := rfl

theorem TableStep.refl (s : State) : TableStep false s s :=
  ⟨rfl, rfl, (Bool.or_false _).symm, rfl, fun _ => rfl⟩

theorem ChannelStep.refl {applied : Channel → Bool} (h : ∀ k, applied k = false) (s : State) : ChannelStep applied s s :=
  ⟨fun k => by rw [h, Bool.not_false, Bool.and_true], fun k => by rw [h]; rfl⟩

/-- TABLE's item at channel k (R47). -/
theorem State.commitTable_spec (s : State) (k : Channel) :
    CommitsOnly s (s.commitItem .table k) ∧ ShadowKept s (s.commitItem .table k) ∧
    TableStep (decide (s.staging.armedTable = some k) && s.chans[k].markSeen) s (s.commitItem .table k) ∧
    ChannelStep (fun _ => false) s (s.commitItem .table k) := by
  by_cases h : s.chans[k].markSeen = true ∧ s.staging.armedTable = some k
  · have ha : (decide (s.staging.armedTable = some k) && s.chans[k].markSeen) = true := by
      rw [h.1, Bool.and_true]
      exact decide_eq_true h.2
    obtain ⟨e, -⟩ := (s.disarm .table).applyCommit_table
    rw [State.commitItem_applies (scope := .table) h.1 h.2, ha, State.applyArmed]
    generalize (s.disarm .table).applyCommit .table = t at e
    refine ⟨?_, ⟨?_, ?_, ?_⟩, ⟨?_, ?_, ?_, ?_, fun hf => nomatch hf⟩, ⟨fun j => ?_, fun j => ?_⟩⟩
    · unfold CommitsOnly
      rw [e]
      rfl
    · rw [e]; rfl
    · rw [e]; rfl
    · rw [e]; rfl
    · rw [e]; rfl
    · rw [e]; rfl
    · rw [e, Bool.or_true]
    · rw [e]; rfl
    · rw [e, Bool.not_false, Bool.and_true]; rfl
    · rw [e]; rfl
  · have hi : s.commitItem .table k = s := if_neg h
    have ha : (decide (s.staging.armedTable = some k) && s.chans[k].markSeen) = false := by
      rw [Bool.eq_false_iff, ne_eq, Bool.and_eq_true, decide_eq_true_iff]
      exact fun g => h ⟨g.2, g.1⟩
    rw [hi, ha]
    exact ⟨.refl s, ⟨rfl, rfl, rfl⟩, .refl s, .refl (fun _ => rfl) s⟩

/-- CHANNEL k's item at its mark (R47). -/
theorem State.commitChannel_spec (s : State) (k : Channel) :
    CommitsOnly s (s.commitItem (.channel k) k) ∧ ShadowKept s (s.commitItem (.channel k) k) ∧
    TableStep false s (s.commitItem (.channel k) k) ∧
    ChannelStep (fun j => decide (j = k) && (s.staging.armedCh.getLsbD j.val && s.chans[j].markSeen)) s
      (s.commitItem (.channel k) k) := by
  by_cases h : s.chans[k].markSeen = true ∧ s.staging.armedCh.getLsbD k.val = true
  · have ha : (s.staging.armedCh.getLsbD k.val && s.chans[k].markSeen) = true := by rw [h.1, h.2]; rfl
    obtain ⟨e, -⟩ := (s.disarm (.channel k)).applyCommit_channel k
    rw [State.commitItem_applies h.1 (armed_channel h.2), State.applyArmed]
    generalize (s.disarm (.channel k)).applyCommit (.channel k) = t at e
    have hs : t.staging = { s.staging with
        armedCh := setArmed s.staging.armedCh k false
        actCh := s.staging.actCh.set k.val s.staging.shCh[k] k.isLt } := by rw [e]; rfl
    refine ⟨?_, ?_, ?_, ⟨fun j => ?_, fun j => ?_⟩⟩
    · unfold CommitsOnly
      rw [e]
      rfl
    · exact ⟨by rw [hs], by rw [hs], by rw [hs]⟩
    · exact ⟨by rw [hs]; rfl, by rw [hs]; rfl, by rw [hs, Bool.or_false], by rw [e]; rfl, fun _ => by rw [e]; rfl⟩
    · rw [hs]
      dsimp only
      rw [setArmed_getLsbD]
      by_cases hj : j = k
      · subst hj
        rw [ha, if_pos rfl, decide_eq_true rfl, Bool.and_self, Bool.not_true, Bool.and_false]
      · simp [hj]
    · rw [hs]
      by_cases hj : j = k
      · subst hj
        rw [ha]
        simp
      · have hne : k.val ≠ j.val := fun e => hj (Fin.ext e.symm)
        simp [hj, Vector.getElem_set_ne _ _ hne]
  · have hi : s.commitItem (.channel k) k = s := by
      refine if_neg fun g => h ⟨g.1, ?_⟩
      have ha := g.2
      unfold Staging.armed at ha
      dsimp only at ha
      split at ha
      · assumption
      · cases ha
    rw [hi]
    refine ⟨.refl s, ⟨rfl, rfl, rfl⟩, .refl s, .refl (fun j => ?_) s⟩
    rw [Bool.eq_false_iff, ne_eq, Bool.and_eq_true, Bool.and_eq_true, decide_eq_true_iff]
    rintro ⟨rfl, g⟩
    exact h ⟨g.2, g.1⟩

theorem TableStep.tblCond {a : Bool} (h : TableStep a s u) : u.scrub.tblCond = s.scrub.tblCond := by
  rw [h.scrub]
  cases a <;> rfl

theorem TableStep.trans {a b : Bool} (h : TableStep a s u) (hs : ShadowKept s u) (g : TableStep b u t) :
    TableStep (a || b) s t := by
  refine ⟨?_, ?_, ?_, ?_, fun hf => ?_⟩
  · rw [g.armedTable, h.armedTable]
    cases a <;> cases b <;> rfl
  · rw [g.actTab, h.actTab, hs.shTab]
    cases a <;> cases b <;> rfl
  · rw [g.tableValid, h.tableValid, Bool.or_assoc]
  · rw [g.scrub, hs.shTab, h.tblCond, h.scrub]
    cases a <;> cases b <;> rfl
  · obtain ⟨ha, hb⟩ := Bool.or_eq_false_iff.1 hf
    exact (g.counters hb).trans (h.counters ha)

theorem ChannelStep.trans {a b : Channel → Bool} (h : ChannelStep a s u) (hs : ShadowKept s u) (g : ChannelStep b u t) :
    ChannelStep (fun k => a k || b k) s t := by
  refine ⟨fun k => ?_, fun k => ?_⟩
  · rw [g.armedCh, h.armedCh]
    cases a k <;> cases b k <;> simp
  · rw [g.actCh, h.actCh, hs.shCh]
    cases a k <;> cases b k <;> rfl

theorem ChannelStep.congr {a b : Channel → Bool} (h : ChannelStep a s u) (e : ∀ k, a k = b k) : ChannelStep b s u :=
  (funext e : a = b) ▸ h

/-- A commit leaves the channels (R45). -/
theorem CommitsOnly.chans (h : CommitsOnly s u) : u.chans = s.chans := by
  unfold CommitsOnly at h
  rw [h]

/-- The commits at some channels' marks (R13, R47). -/
def runCommits (ks : List Channel) (s : State) : State :=
  ks.foldl (fun u k => (u.commitItem .table k).commitItem (.channel k) k) s

theorem runItems_commits (inp : Samples) (ks : List Channel) (rest : List Item) : ∀ s : State,
    runItems inp (ks.flatMap (fun k => [.commitTable k, .commitChannel k]) ++ rest) s =
      runItems inp rest (runCommits ks s) := by
  induction ks with
  | nil => exact fun _ => rfl
  | cons k ks ih => exact fun s => ih _

theorem runCommits_spec (ks : List Channel) : ∀ {s : State}, ks.Nodup → Commits ks s (runCommits ks s) := by
  induction ks with
  | nil =>
    intro s _
    refine ⟨.refl s, ⟨rfl, rfl, rfl⟩, fun a ha => ?_, .refl (fun _ => rfl) s⟩
    have : a = false := Bool.eq_false_iff.2 fun h => by simpa using ha.1 h
    exact this ▸ .refl s
  | cons k ks ih =>
    intro s hn
    obtain ⟨hk, hks⟩ := List.nodup_cons.1 hn
    obtain ⟨o1, s1, t1, c1⟩ := s.commitTable_spec k
    have hrun : runCommits (k :: ks) s = runCommits ks ((s.commitItem .table k).commitItem (.channel k) k) := rfl
    generalize s.commitItem .table k = u1 at o1 s1 t1 c1 hrun
    obtain ⟨o2, s2, t2, c2⟩ := u1.commitChannel_spec k
    generalize u1.commitItem (.channel k) k = u2 at o2 s2 t2 c2 hrun
    obtain ⟨o3, s3, t3, c3⟩ := ih (s := u2) hks
    rw [hrun]
    refine ⟨(o1.trans o2).trans o3, (s1.trans s2).trans s3, fun a ha => ?_, ?_⟩
    · have chans2 : u2.chans = s.chans := o2.chans.trans o1.chans
      have armed2 : u2.staging.armedTable = if decide (s.staging.armedTable = some k) && s.chans[k].markSeen then none
          else s.staging.armedTable := by
        rw [t2.armedTable, t1.armedTable]
        rfl
      have h := ((t1.trans s1 t2).trans (s1.trans s2)
        (t3 (decide (∃ m ∈ ks, u2.staging.armedTable = some m ∧ u2.chans[m].markSeen = true)) decide_eq_true_iff))
      refine cast (congrArg (TableStep · s _) ?_) h
      rw [Bool.eq_iff_iff, ha, chans2, armed2]
      simp only [List.mem_cons, exists_eq_or_imp, Bool.or_false, Bool.or_eq_true, decide_eq_true_iff]
      by_cases hx : s.staging.armedTable = some k ∧ s.chans[k].markSeen = true
      · have hb : (decide (s.staging.armedTable = some k) && s.chans[k].markSeen) = true := by
          rw [hx.2, Bool.and_true]
          exact decide_eq_true hx.1
        exact iff_of_true (.inl hb) (.inl hx)
      · have hb : (decide (s.staging.armedTable = some k) && s.chans[k].markSeen) = false := by
          rw [Bool.eq_false_iff, ne_eq, Bool.and_eq_true, decide_eq_true_iff]
          exact hx
        rw [hb]
        exact (or_iff_right Bool.false_ne_true).trans (or_iff_right hx).symm
    · have chans2 : u2.chans = s.chans := o2.chans.trans o1.chans
      refine ((c1.trans s1 c2).trans (s1.trans s2) c3).congr fun j => ?_
      rw [c2.armedCh, c1.armedCh, chans2, o1.chans]
      by_cases hj : j = k
      · subst hj
        simp [hk]
      · simp [hj]

/-- Phase 4 (R13, R47). -/
theorem State.phase4 (s : State) (inp : Samples) (rest : List Item) :
    ∃ u, runItems inp (phase4Items ++ rest) s = runItems inp rest u ∧ Commits allChannels s u :=
  ⟨_, runItems_commits inp allChannels rest s, runCommits_spec allChannels (by decide)⟩

/-- Phase 5 and the end of the tick (R13, R91, R131, R138). -/
theorem State.phase5 (s : State) (inp : Samples) :
    (runItems inp phase5Items s).bind (fun t => .goes (t.endTick inp)) =
      .goes (((s.recomputeOutputs.recomputeIrq (s.arb.hd != 0)).holdoffDown).endTick inp) := rfl

end

end Sys2Proof.Machine

end

section
/-! SUPPORT. A whole tick in which no reset can arise, put together from its phases. -/

namespace Sys2Proof.Machine

section
variable {s v u2 u3 u4 : State} {inp : Samples}

/-- The state that phase 1 leaves where nothing waits (R3). -/
def State.begun (s : State) (inp : Samples) : State := (s.beginTick inp).noWaiting

/-- What phase 5 and the end of the tick make of the state that they find (R91, R131, R138). -/
def State.ended (s : State) (inp : Samples) : State :=
  ((s.recomputeOutputs.recomputeIrq (s.arb.hd != 0)).holdoffDown).endTick inp

/-! ### The end of the tick -/

theorem State.ended_frame (u : State) (inp : Samples) :
    (u.ended inp).lines = u.lines ∧ (u.ended inp).sup = u.sup ∧ (u.ended inp).safeIn = u.safeIn ∧
    (u.ended inp).staging = u.staging ∧ (u.ended inp).scrub = u.scrub ∧ (u.ended inp).causes = u.causes ∧
    (u.ended inp).safepat = u.safepat ∧ (u.ended inp).pins = u.pins ∧ (u.ended inp).wdg = u.wdg ∧
    (u.ended inp).link = u.link ∧ (u.ended inp).counters = u.counters ∧ (u.ended inp).rstcause = u.rstcause ∧
    (u.ended inp).pending = u.pending ∧ (u.ended inp).tick = none := by
  unfold State.ended
  simp

theorem State.ended_time (u : State) (inp : Samples) :
    (u.ended inp).time = { u.time with rawin := inp.fin } ∧ (u.ended inp).clk = u.clk.endTick := by
  unfold State.ended
  simp [State.endTick]

theorem State.ended_arb (u : State) (inp : Samples) :
    (u.ended inp).arb = { u.arb with hd := if u.arb.hd = 0 then 0 else u.arb.hd - 1 } := by
  have e : ∀ w : State, w.holdoffDown.arb = { w.arb with hd := if w.arb.hd = 0 then 0 else w.arb.hd - 1 } := fun _ => rfl
  unfold State.ended
  rw [State.endTick_arb, e, State.recomputeIrq_arb, State.recomputeOutputs_arb]

theorem State.ended_chan (u : State) (inp : Samples) (k : Channel) :
    (u.ended inp).chans[k] = { u.chans[k] with markSeen := false, enteredCycle := false } := by
  unfold State.ended
  simp [State.endTick]

theorem Shown.later {u : State} (h : Shown u) (holding : Bool) : Shown (u.recomputeIrq holding).holdoffDown := h

/-- The outputs show the state at the end of the tick (R91). -/
theorem State.ended_shown (u : State) (inp : Samples) : Shown (u.ended inp) :=
  ((Shown.recomputed u).later _).endTick inp

theorem State.eligibleWith_congr {u w : State} (hp : w.arb.pend = u.arb.pend) (hl : w.arb.sl = u.arb.sl)
    (hg : w.staging = u.staging) (holding : Bool) (src : Source) : w.eligibleWith holding src = u.eligibleWith holding src := by
  unfold State.eligibleWith State.isPending State.effLevel
  rw [hp, hl, hg]

/-- nIRQ is judged before the holdoff decrement (R13, R131). -/
theorem State.ended_irq (u : State) (inp : Samples) :
    (u.ended inp).outs.nIrq = true ↔ ∃ src : Source, (u.ended inp).eligibleWith (u.arb.hd != 0) src = true := by
  have e : (u.ended inp).outs = (u.recomputeOutputs.recomputeIrq (u.arb.hd != 0)).outs := by
    unfold State.ended
    simp
  have hg : (u.ended inp).staging = u.recomputeOutputs.staging := by
    unfold State.ended
    simp
  have hp : (u.ended inp).arb.pend = u.recomputeOutputs.arb.pend := by rw [State.ended_arb]; rfl
  have hl : (u.ended inp).arb.sl = u.recomputeOutputs.arb.sl := by rw [State.ended_arb]; rfl
  rw [e, State.recomputeIrq_iff]
  exact exists_congr fun src => by rw [State.eligibleWith_congr hp hl hg]

/-! ### A whole tick -/

/-- A whole tick by its phases (R13). -/
theorem State.wholeTick_phases (hr : s.inReset = false) (ht : s.tick = none) (hq : s.link.waiting = [])
    (hw : s.wdg.st ≠ .lapsed) (hs : s.staging.tableValid = false ∨ s.scrub.pacing.val < 63)
    (hc : s.clk.period.handOffs = []) :
    ∃ u2 u3 u4, s.wholeTick inp = u4.ended inp ∧ AfterPhase2 inp (s.begun inp) u2 ∧ AfterPhase3 inp u2 u3 ∧
      Commits allChannels u3 u4 := by
  obtain ⟨u2, r2, h2⟩ := (s.begun inp).phase2 inp (phase3Items ++ (phase4Items ++ phase5Items)) hw hs hc
  obtain ⟨u3, r3, h3⟩ := u2.phase3 inp (phase4Items ++ phase5Items)
  obtain ⟨u4, r4, h4⟩ := u3.phase4 inp phase5Items
  refine ⟨u2, u3, u4, ?_, h2, h3, h4⟩
  have hopen : (s.openTick inp).st = s.begun inp := by
    unfold State.openTick
    rw [hq]
    rfl
  have hi : tickItems = phase2Items ++ (phase3Items ++ (phase4Items ++ phase5Items)) := by
    simp [tickItems]
  unfold State.wholeTick
  rw [if_neg (Bool.eq_false_iff.1 hr), s.settle_idle ht, hopen, State.settle_open (u := ⟨inp, tickItems⟩) rfl]
  dsimp only
  rw [hi, r2, r3, r4, u4.phase5 inp]
  rfl

/-- What the phases leave of the state that phase 1 left. -/
theorem phases_frame (h2 : Phase2 v u2) (h3 : AfterPhase3 inp u2 u3) (h4 : CommitsOnly u3 u4) :
    u4 = { v with
      time := { v.time with wmPrev := some inp.wm }, clk := u2.clk, lines := u2.lines, sup := u2.sup, safeIn := u2.safeIn
      staging := u4.staging, scrub := u4.scrub, chans := u3.chans, causes := u2.causes, journal := u4.journal
      arb := { v.arb with pend := u4.arb.pend }, wdg := u2.wdg, counters := u4.counters } := by
  have h3 := h3.blocks
  unfold Phase2 at h2
  unfold CommitsOnly at h4
  rw [h3] at h4
  rw [h2] at h4
  exact h4

/-- What phase 1 leaves where nothing waits (R2, R3, R5). -/
theorem State.begun_eq (hq : s.link.waiting = []) : s.begun inp = { s with
    time := { s.snapshot.time with tstamp := s.time.tstamp + 1, supLow := inp.supLow, safeInPin := inp.safeIn }
    clk := s.clk.period, tick := some ⟨inp, tickItems⟩, pins := { s.pins with inputs := inp }, link := s.snapshot.link } := by
  have hl : { s.snapshot.link with waiting := [] } = s.snapshot.link := by
    rw [← hq]
    rfl
  unfold State.begun State.noWaiting
  change { s.beginTick inp with link := { s.snapshot.link with waiting := [] } } = _
  rw [hl]
  rfl

/-- The phases read of the state that phase 1 left what stood before it. -/
theorem State.begun_reads (s : State) (inp : Samples) :
    (∀ k, (s.begun inp).lineAfter k inp = s.lineAfter k inp) ∧ (s.begun inp).assertedIn inp = s.assertedIn inp ∧
    (s.begun inp).safeInEvent inp = s.safeInEvent inp ∧ (s.begun inp).wdgAfter = s.wdgAfter ∧
    (s.begun inp).scrubAfter = s.scrubAfter :=
  ⟨fun _ => rfl, rfl, rfl, rfl, rfl⟩

theorem Chan.hit_markSeen (l y : Prop) [Decidable l] [Decidable y] (c : Chan) : (c.hit l y).markSeen = c.markSeen := by
  unfold Chan.hit Chan.latchCause Chan.cycleCause Chan.enterCycle
  (repeat' split) <;> rfl

theorem phases_reads (h2 : Phase2 (s.begun inp) u2) (k : Channel) :
    u2.staging = s.staging ∧ u2.hasMark k inp.wm = s.hasMark k inp.wm := by
  unfold Phase2 at h2
  rw [h2]
  exact ⟨rfl, rfl⟩

/-- The state at the end of the tick, beside what its phases say (R2, R5, R13). -/
theorem phases_time (hq : s.link.waiting = []) (h2 : Phase2 (s.begun inp) u2) (h3 : AfterPhase3 inp u2 u3)
    (h4 : CommitsOnly u3 u4) :
    u4.time = { s.snapshot.time with
      tstamp := s.time.tstamp + 1, supLow := inp.supLow, safeInPin := inp.safeIn, wmPrev := some inp.wm } ∧
    u4.link = s.snapshot.link ∧ u4.safepat = s.safepat ∧ u4.pins = { s.pins with inputs := inp } ∧
    u4.rstcause = s.rstcause ∧ u4.pending = s.pending ∧ u4.arb = { s.arb with pend := u4.arb.pend } := by
  have hf := phases_frame h2 h3 h4
  rw [State.begun_eq hq] at hf
  exact ⟨by rw [hf], by rw [hf], by rw [hf], by rw [hf], by rw [hf], by rw [hf], by rw [hf]⟩

theorem phases_blocks (h2 : Phase2 v u2) (h3 : AfterPhase3 inp u2 u3) (h4 : CommitsOnly u3 u4) :
    u4.clk = u2.clk ∧ u4.lines = u2.lines ∧ u4.sup = u2.sup ∧ u4.safeIn = u2.safeIn ∧ u4.chans = u3.chans ∧
    u4.causes = u2.causes ∧ u4.wdg = u2.wdg := by
  have hf := phases_frame h2 h3 h4
  exact ⟨by rw [hf], by rw [hf], by rw [hf], by rw [hf], by rw [hf], by rw [hf], by rw [hf]⟩

theorem AfterPhase3.kept (h : AfterPhase3 inp u2 u3) :
    u3.staging = u2.staging ∧ u3.scrub = u2.scrub ∧ u3.counters = u2.counters := by
  rw [h.blocks]
  exact ⟨rfl, rfl, rfl⟩

/-! ### Phase 3 on what phase 2 left -/

theorem phases_turn (h2 : Phase2 (s.begun inp) u2) (h3 : AfterPhase3 inp u2 u3) (k : Channel) :
    u3.chans[k] = u2.chans[k].turn s.staging.actCh[k] (s.hasMark k inp.wm) (u2.heldOn .cycle k) := by
  obtain ⟨hg, hm⟩ := phases_reads h2 k
  rw [h3.chans, State.turnOf, hg, hm]

/-- Channel k when phase 3 begins (R62-R66). -/
theorem phases_alike (h2 : AfterPhase2 inp (s.begun inp) u2) (k : Channel) :
    u2.chans[k].Alike (s.chans[k].hit
      ((s.causes = 0 ∧ u2.causes ≠ 0) ∨ ∃ x ∈ s.assertedIn inp, x.cls = .latch ∧ x.mask.getLsbD k.val = true)
      (∃ x ∈ s.assertedIn inp, x.cls = .cycle ∧ x.mask.getLsbD k.val = true)) :=
  h2.reacts.chans k

/-- The marks that phase 4 finds (R12, R47). -/
theorem phases_mark (hk : ∀ k : Channel, s.chans[k].markSeen = false) (h2 : AfterPhase2 inp (s.begun inp) u2)
    (h3 : AfterPhase3 inp u2 u3) (k : Channel) : u3.chans[k].markSeen = s.hasMark k inp.wm := by
  rw [phases_turn h2.blocks h3]
  refine (Chan.turn_seen ?_ _ _).1
  rw [(phases_alike h2 k).markSeen, Chan.hit_markSeen, hk]

theorem phases_armed (hk : ∀ k : Channel, s.chans[k].markSeen = false) (h2 : AfterPhase2 inp (s.begun inp) u2)
    (h3 : AfterPhase3 inp u2 u3) :
    (∃ m, s.staging.armedTable = some m ∧ s.hasMark m inp.wm = true) ↔
      ∃ m ∈ allChannels, u3.staging.armedTable = some m ∧ u3.chans[m].markSeen = true := by
  have hg : u3.staging = s.staging := h3.kept.1.trans (phases_reads h2.blocks 0).1
  rw [hg]
  refine exists_congr fun m => ?_
  have hm := mem_allChannels m
  rw [phases_mark hk h2 h3, and_iff_right hm]

theorem State.scrubAfter_tblCond (s : State) : s.scrubAfter.tblCond = s.scrub.tblCond := by
  unfold State.scrubAfter
  split <;> rfl

/-- What phase 4 finds of the blocks that it may change. -/
theorem phases_staged (h2 : AfterPhase2 inp (s.begun inp) u2) (h3 : AfterPhase3 inp u2 u3) :
    u3.staging = s.staging ∧ u3.scrub = s.scrubAfter ∧ u3.counters = s.counters := by
  obtain ⟨hg, hs, hc⟩ := h3.kept
  have e2 : u2.staging = s.staging ∧ u2.counters = s.counters := by
    have hb := h2.blocks
    unfold Phase2 at hb
    rw [hb]
    exact ⟨rfl, rfl⟩
  exact ⟨hg.trans e2.1, hs.trans h2.scrub, hc.trans e2.2⟩

end

end Sys2Proof.Machine

open Sys2Proof Sys2Proof.Machine

/-- Settles O14: the phases of the tick, one after the other, and its end. -/
theorem tickRunsItsFivePhases : Obligations.TickRunsItsFivePhases := by
  intro inp s hr ht hq hw hs hc hk
  obtain ⟨u2, u3, u4, hrun, h2, h3, h4⟩ := State.wholeTick_phases (inp := inp) hr ht hq hw hs hc
  obtain ⟨rlines, rasserted, rsafeIn, rwdg, rscrub⟩ := s.begun_reads inp
  obtain ⟨time4, link4, safe4, pins4, rst4, pend4, arb4⟩ := phases_time hq h2.blocks h3 h4.only
  obtain ⟨clk4, lines4, sup4, safeIn4, chans4, causes4, wdg4⟩ := phases_blocks h2.blocks h3 h4.only
  obtain ⟨elines, esup, esafeIn, estaging, escrub, ecauses, esafe, epins, ewdg, elink, ecounters, erst, epend, etick⟩ :=
    u4.ended_frame inp
  obtain ⟨etime, eclk⟩ := u4.ended_time inp
  obtain ⟨staged3, scrub3, counters3⟩ := phases_staged h2 h3
  have earb := u4.ended_arb inp
  have eshown := u4.ended_shown inp
  have eirq := u4.ended_irq inp
  have echan := u4.ended_chan inp
  generalize u4.ended inp = t at *
  refine ⟨t, congrArg Host.Outcome.next hrun, etick, etime.trans ?_, elink.trans link4, esafe.trans safe4,
    epins.trans pins4, erst.trans rst4, epend.trans pend4,
    fun k => ?_, ?_, ?_, ?_, ?_, ?_, fun k c present hp hck => ?_, fun applied ha => ?_, fun k applied ha => ?_, ?_, ?_, ?_, ?_⟩
  · rw [time4]
  · rw [elines, lines4, h2.lines, rlines]
    rfl
  · rw [esup, sup4, h2.sup]
    rfl
  · rw [esafeIn, safeIn4]
    exact h2.safeIn
  · rw [ecauses, causes4, h2.reacts.causes, rasserted, rsafeIn]
    simp only [decide_eq_true_iff]
    rfl
  · rw [ewdg, wdg4, h2.wdg, rwdg]
    unfold State.wdgAfter
    cases hst : s.wdg.st with
    | lapsed => exact absurd hst hw
    | off | closed | opened => rfl
  · rw [eclk, clk4, h2.clk]
    rfl
  · obtain ⟨hm, -⟩ := hk k
    have hc : c = s.chans[k].hit
        ((s.causes = 0 ∧ u2.causes ≠ 0) ∨ ∃ x ∈ s.assertedIn inp, x.cls = .latch ∧ x.mask.getLsbD k.val = true)
        (∃ x ∈ s.assertedIn inp, x.cls = .cycle ∧ x.mask.getLsbD k.val = true) := by
      rw [hck, ecauses, causes4]
      rfl
    have alike : u2.chans[k].Alike c := by
      rw [hc]
      exact phases_alike h2 k
    have unseen : c.markSeen = false := by rw [hc, Chan.hit_markSeen, hm]
    have held : u2.heldOn .cycle k = present := by
      rw [hp]
      exact (State.heldOn_congr (elines.trans lines4) (esup.trans sup4) (by rw [ewdg, wdg4]) .cycle k).symm
    have turned : t.chans[k] = { u2.chans[k].turn s.staging.actCh[k] (s.hasMark k inp.wm) present with
        markSeen := false, enteredCycle := false } := by
      rw [echan, chans4, phases_turn h2.blocks h3, held]
    refine ⟨by rw [turned], by rw [turned], ?_, fun u hu => Chan.turn_cases alike unseen (hu.trans turned)⟩
    rw [turned, ← alike.pulse]
    exact (Chan.turn_seen (alike.markSeen.trans unseen) _ _).2
  · have step := h4.table applied (ha.trans (phases_armed (fun k => (hk k).1) h2 h3))
    rw [estaging, escrub, ecounters, step.armedTable, step.actTab, step.tableValid, step.scrub, staged3, scrub3,
      s.scrubAfter_tblCond]
    exact ⟨rfl, rfl, rfl, rfl, fun hf => (step.counters hf).trans counters3⟩
  · have hm := mem_allChannels k
    have here : applied = (decide (k ∈ allChannels) && (u3.staging.armedCh.getLsbD k.val && u3.chans[k].markSeen)) := by
      rw [ha, staged3, phases_mark (fun k => (hk k).1) h2 h3, decide_eq_true hm, Bool.true_and]
    rw [estaging, h4.channel.armedCh k, h4.channel.actCh k, here, staged3]
    exact ⟨rfl, rfl⟩
  · rw [estaging, h4.shadow.shTab, staged3]
  · rw [estaging, h4.shadow.shCh, staged3]
  · rw [estaging, h4.shadow.locked, staged3]
  · obtain ⟨layers, level, nSafe⟩ := eshown
    have hd4 : u4.arb.hd = s.arb.hd := by rw [arb4]
    rw [hd4] at eirq earb
    refine ⟨layers, level, nSafe, eirq, ?_⟩
    rw [earb, arb4]

end
